-- ==== Sys2Proof/Word.lean ====
section
/-! DEFINITION. The bit vectors of the part's frames and counters, its timers, and fixed-size tables. -/

namespace Sys2Proof

/-- One byte of a frame (00_scope.md section 5.3). -/
abbrev Byte := BitVec 8

/-- A 16-bit word of a payload, a table entry or a parameter (00_scope.md section 5.3, R201). -/
abbrev Word := BitVec 16

/-- An unsigned 16-bit event counter (00_scope.md section 5.1). -/
abbrev Counter := BitVec 16

/-- A timer: `none` is stopped, `some r` is running with `r` units of 100 µs left (00_scope.md section 5.6).
`some 0` is a timer that has fallen due and whose expiry has not been taken yet. -/
abbrev Timer := Option Nat

/-- Entry `i` of a table. -/
def look {α : Type} {n : Nat} (v : Vector α n) (i : Fin n) : α := v[i.val]

/-- A table with entry `i` replaced. -/
def put {α : Type} {n : Nat} (v : Vector α n) (i : Fin n) (x : α) : Vector α n :=
  v.set i.val x i.isLt

@[simp] theorem look_put_same {α : Type} {n : Nat} (v : Vector α n) (i : Fin n) (x : α) :
    look (put v i x) i = x := by
  simp [look, put]

theorem look_put_other {α : Type} {n : Nat} (v : Vector α n) (i j : Fin n) (x : α) (h : i ≠ j) :
    look (put v i x) j = look v j := by
  have : i.val ≠ j.val := fun e => h (Fin.ext e)
  simp [look, put, this]

theorem look_put {α : Type} {n : Nat} (v : Vector α n) (i j : Fin n) (x : α) :
    look (put v i x) j = if i = j then x else look v j := by
  by_cases h : i = j
  · subst h; simp
  · simp [h, look_put_other v i j x h]

@[simp] theorem look_replicate {α : Type} {n : Nat} (i : Fin n) (x : α) :
    look (Vector.replicate n x) i = x := by
  simp [look]

/-- Two tables with the same entries are the same table. -/
theorem table_ext {α : Type} {n : Nat} {v w : Vector α n} (h : ∀ i, look v i = look w i) : v = w := by
  apply Vector.ext
  intro i hi
  exact h ⟨i, hi⟩

end Sys2Proof
end

