-- ==== Sys2Proof/Syntax.lean ====
section
/-! DEFINITION. The commands of the part: one constructor for each row of spec/opcode_table.json.

The table gives its rows no operands and no bits. The operands here are what the rule of each row reads from
outside the part at that step (notes/assumptions 9, 10 and 14). -/

namespace Sys2Proof

/-- The two frame ports (00_scope.md section 4). -/
inductive Port where
  | cockpit
  | chassis
  deriving DecidableEq, Repr

/-- The port on the other side of the part (R7). -/
def Port.opposite : Port → Port
  | .cockpit => .chassis
  | .chassis => .cockpit

/-- The two drive slots (chapter 7). -/
inductive Drive where
  | tilt
  | steer
  deriving DecidableEq, Repr

/-- The number of a frame buffer, 0 to 47 (section 2.4). -/
abbrev Token := Fin 48

/-- The number of a sample channel, 0 to 15 (section 3.1). -/
abbrev Channel := Fin 16

/-- The commands, in the order of the table. -/
inductive Instr where
  /-- FRAME_START, R23. -/
  | frameStart (p : Port)
  /-- HEADER_COMPLETE, R25, with the four header bytes (section 11.1). -/
  | headerComplete (p : Port) (b0 b1 b2 b3 : Byte)
  /-- DISCARD_END, R24. -/
  | discardEnd (p : Port)
  /-- FRAME_END, R26, with the bytes that came in after the header: payload and check. -/
  | frameEnd (p : Port) (body : List Byte)
  /-- LINE_FAULT, R27. -/
  | lineFault (p : Port)
  /-- QUIET_TIMER_EXPIRY, R29. -/
  | quietTimerExpiry (p : Port)
  /-- FRESHNESS_TIMER_EXPIRY, R58. -/
  | freshnessTimerExpiry (c : Channel)
  /-- TRANSMISSION_COMPLETE, R45. -/
  | transmissionComplete (p : Port)
  /-- CYCLE_TIMER_EXPIRY, R92. -/
  | cycleTimerExpiry
  /-- CYCLE_COMPLETION, R102. -/
  | cycleCompletion
  /-- RELEASE_QUALIFY_EXPIRY, R147. -/
  | releaseQualifyExpiry
  /-- CONFIRM_EXPIRY_RELEASING, R149. -/
  | confirmExpiryReleasing
  /-- ENGAGE_QUALIFY_EXPIRY, R151. -/
  | engageQualifyExpiry
  /-- CONFIRM_EXPIRY_ENGAGING, R153. -/
  | confirmExpiryEngaging
  /-- ACK_TIMER_EXPIRY, R131. -/
  | ackTimerExpiry (d : Drive)
  /-- STATUS_CLAIM_RETRY, R171. -/
  | statusClaimRetry
  /-- STATUS_INTERVAL_EXPIRY, R172. -/
  | statusIntervalExpiry
  /-- SUPPLY_LOW, R175. -/
  | supplyLow
  /-- SUPPLY_RESTORED, R175. -/
  | supplyRestored
  /-- POWER_ON_RESET, R177. -/
  | powerOnReset
  /-- POWER_ON_RESET_END, R177, with the node straps and whether the supply is below 4.55 V (R176). -/
  | powerOnResetEnd (straps : BitVec 6) (low : Bool)
  /-- PIN_RESET, R177. -/
  | pinReset
  /-- PIN_RESET_END, R177, with the node straps and whether the supply is below 4.55 V (R176). -/
  | pinResetEnd (straps : BitVec 6) (low : Bool)
  /-- MANAGEMENT_RESET_END, R177, with the node straps and whether the supply is below 4.55 V (R176). -/
  | managementResetEnd (straps : BitVec 6) (low : Bool)
  /-- MALFORMED_REQUEST, R183: the request in hand completes. -/
  | malformedRequest
  /-- READ_STATE, R184: the request in hand completes, as in each row after this one. -/
  | readState
  /-- READ_ENTRY, R184. -/
  | readEntry
  /-- STAGE_ENTRY, R186. -/
  | stageEntry
  /-- DISCARD_STAGE, R186. -/
  | discardStage
  /-- COMMIT, R187. -/
  | commit
  /-- READ_COUNTERS, R196. -/
  | readCounters
  /-- CLEAR_COUNTERS, R196. -/
  | clearCounters
  /-- CLEAR_FAULTS, R167. -/
  | clearFaults
  /-- ENGAGE_CONTROL, R194. -/
  | engageControl
  /-- RELEASE_CONTROL, R88. -/
  | releaseControl
  /-- RESET, R195. -/
  | reset
  deriving DecidableEq, Repr

end Sys2Proof
end

