-- ==== Sys2Proof/Decode.lean ====
section
/-! DEFINITION. The command a word spells. spec/opcode_table.json gives none of its 36 rows any bits, so no word
spells a command. -/

namespace Sys2Proof

/-- The command that the word `w` of `nbits` bits spells by the table's bits: none, for the table has no bits. -/
def decodeTableWord (_nbits _w : Nat) : Option Instr := none

end Sys2Proof
end

