-- ==== Sys2Proof/Config.lean ====
section
/-! DEFINITION. What the part's implementation fixes, and the values the manual leaves free. -/

namespace Sys2Proof

/-- FREE VALUE (notes/assumptions/3.md): where events that fall due at one moment may be taken in any order
(R58, R138, R147, section 5.6 of 00_scope.md), the place of each among the others. It has no body. -/
opaque Config.freePlace : Nat → Nat

/-- The number the part's management streams are counted from (00_scope.md section 5.4). -/
def Config.managementBase : BitVec 12 := 3840

/-- The number the part's status streams are counted from (00_scope.md section 5.4). -/
def Config.statusBase : BitVec 12 := 3904

/-- The longest legal payload (00_scope.md section 5.3, R24). -/
def Config.longestPayload : Nat := 32

/-- Units of 100 µs within which a control cycle completes (section 5.3 of chapter 5: 200 µs). -/
def Config.cycleUnits : Nat := 2

/-- The most entries the stage holds (R185). -/
def Config.stageRoom : Nat := 8

/-- The most counters one READ_COUNTERS reply carries (R196). -/
def Config.countersPerReply : Nat := 12

end Sys2Proof
end

