-- ==== Sys2Proof/Machine/Frame.lean ====
section
/-! DEFINITION. Frames as the bytes on the line: fields, the check, and building a frame (00_scope.md section 5.3,
section 11.1). -/

namespace Sys2Proof.Machine

/-- The high byte of a word. -/
def hiByte (w : Word) : Byte := w.extractLsb' 8 8

/-- The low byte of a word. -/
def loByte (w : Word) : Byte := w.extractLsb' 0 8

/-- The word of two bytes, most significant byte first (section 11). -/
def wordOf (hi lo : Byte) : Word := hi ++ lo

/-- The two bytes of a word, most significant byte first. -/
def wordBytes (w : Word) : List Byte := [hiByte w, loByte w]

/-- A signed quantity as the two's-complement word that carries it (section 11). -/
def signedWord (x : Int) : Word := BitVec.ofInt 16 x

/-- One data bit through the CRC register: generator x^16 + x^12 + x^5 + 1 (00_scope.md section 5.3). -/
def crcBit (c : Word) (b : Bool) : Word :=
  if c.msb != b then (c <<< 1) ^^^ 0x1021#16 else c <<< 1

/-- One byte through the CRC register, most significant bit first (00_scope.md section 5.3). -/
def crcByte (c : Word) (b : Byte) : Word :=
  [7, 6, 5, 4, 3, 2, 1, 0].foldl (fun c i => crcBit c (b.getLsbD i)) c

/-- CRC-16 of the bytes: initial value all ones, no final inversion (00_scope.md section 5.3). -/
def crc16 (bs : List Byte) : Word := bs.foldl crcByte 0xFFFF#16

/-- Byte `i` of a byte string, 0 beyond its end. -/
def byteAt (bs : List Byte) (i : Nat) : Byte := bs.getD i 0

/-- Payload word `w`: bytes `2w` and `2w + 1` (00_scope.md section 5.3). -/
def wordAt (bs : List Byte) (i : Nat) : Word := wordOf (byteAt bs i) (byteAt bs (i + 1))

/-- The kinds of frames (00_scope.md section 5.3). -/
inductive FrameKind where
  | sample
  | demand
  | command
  | ack
  | mgmtReq
  | mgmtReply
  | status
  | unknown
  deriving DecidableEq, Repr

/-- The kind a code names: 1 to 7, every other value is an unknown kind (00_scope.md section 5.3). -/
def kindOfCode (c : BitVec 4) : FrameKind :=
  match c.toNat with
  | 1 => .sample
  | 2 => .demand
  | 3 => .command
  | 4 => .ack
  | 5 => .mgmtReq
  | 6 => .mgmtReply
  | 7 => .status
  | _ => .unknown

/-- The kind field: the four high bits of byte 0 (section 11.1). -/
def frameKind (bs : List Byte) : FrameKind := kindOfCode ((byteAt bs 0).extractLsb' 4 4)

/-- The stream field: the low four bits of byte 0 and byte 1 (section 11.1). -/
def frameStream (bs : List Byte) : BitVec 12 := (byteAt bs 0).extractLsb' 0 4 ++ byteAt bs 1

/-- The sequence field (section 11.1). -/
def frameSeq (bs : List Byte) : Byte := byteAt bs 2

/-- The length field (section 11.1). -/
def frameLength (bs : List Byte) : Nat := (byteAt bs 3).toNat

/-- The payload (section 11.1). -/
def framePayload (bs : List Byte) : List Byte := (bs.drop 4).take (frameLength bs)

/-- The check field: the two bytes after the payload, high byte first (section 11.1). -/
def frameCheck (bs : List Byte) : Word := wordAt bs (4 + frameLength bs)

/-- The check agrees with header and payload (R26). -/
def checkAgrees (bs : List Byte) : Bool := crc16 (bs.take (4 + frameLength bs)) == frameCheck bs

/-- The four header bytes of a frame the part builds (section 11.1). -/
def headerBytes (kind : BitVec 4) (stream : BitVec 12) (seq : Byte) (length : Nat) : List Byte :=
  [kind ++ stream.extractLsb' 8 4, stream.extractLsb' 0 8, seq, BitVec.ofNat 8 length]

/-- Bytes with their check behind them. -/
def withCheck (bs : List Byte) : List Byte := bs ++ wordBytes (crc16 bs)

/-- A whole frame that the part builds (section 11.1). -/
def buildFrame (kind : BitVec 4) (stream : BitVec 12) (seq : Byte) (payload : List Byte) : List Byte :=
  withCheck (headerBytes kind stream seq payload.length ++ payload)

/-- A frame with payload bytes `i` and `i + 1` replaced by a word and its check recomputed (R118). -/
def rewriteWord (bs : List Byte) (i : Nat) (w : Word) : List Byte :=
  withCheck (((bs.take (4 + frameLength bs)).set (4 + i) (hiByte w)).set (5 + i) (loByte w))

/-- The status stream of the part, 3904 + node number (00_scope.md section 5.4, R171). -/
def statusStream (node : BitVec 6) : BitVec 12 := Config.statusBase + node.setWidth 12

/-- The part's management stream, 3840 + node number (R3). -/
def managementStream (node : BitVec 6) : BitVec 12 := Config.managementBase + node.setWidth 12

end Sys2Proof.Machine
end

