-- ==== Sys2Proof/Machine/State.lean ====
section
/-! DEFINITION. The state of the part, block by block as 00_scope.md section 3.1 lists the owners, and its reset
values. -/

namespace Sys2Proof.Machine

/-- Reasons for which the part stops with a fault: none. The manual names no command whose effect is undefined, and
no command stops the part (notes/assumptions/6.md). -/
inductive Fault where
  deriving DecidableEq, Repr

/-- Reasons for which the model refuses a command. -/
inductive Refusal where
  /-- Raised by an arm of `exec` whose command has no meaning yet; safe. No arm raises it. -/
  | notModelled (mnemonic : String)
  deriving DecidableEq, Repr

/-- One thing for each port. -/
structure Ports (α : Type) where
  cockpit : α
  chassis : α
  deriving DecidableEq, Repr

/-- The part that belongs to one port. -/
def Ports.get {α : Type} (x : Ports α) : Port → α
  | .cockpit => x.cockpit
  | .chassis => x.chassis

/-- The pair with one port's part replaced. -/
def Ports.set {α : Type} (x : Ports α) (p : Port) (a : α) : Ports α :=
  match p with
  | .cockpit => { x with cockpit := a }
  | .chassis => { x with chassis := a }

/-! ## Resets (R177) -/

/-- The three kinds of reset (00_scope.md section 5.7). -/
inductive ResetKind where
  | power
  | pin
  | management
  deriving DecidableEq, Repr

/-- Which resets are held, which kind began last, and the reset cause (R177). -/
structure ResetControl where
  power : Bool
  pin : Bool
  management : Bool
  lastBegun : ResetKind
  cause : ResetKind
  deriving DecidableEq, Repr

/-! ## Receivers (section 2.1) -/

/-- The frame in progress: phase, with the buffer in BODY only and the bytes remaining once the header is in. -/
inductive RxPhase where
  | idle
  | header
  | body (buffer : Token) (remaining : Nat)
  | discarding (remaining : Nat)
  deriving DecidableEq, Repr

/-- One receiver: frame in progress, quiet timer (R29) and its four port counters (R28). -/
structure Receiver where
  phase : RxPhase
  quiet : Timer
  good : Counter
  checkError : Counter
  long : Counter
  overrun : Counter
  deriving DecidableEq, Repr

/-! ## Buffer pool (section 2.4) -/

/-- The states of a buffer (R31). -/
inductive BufferState where
  | free
  | receiving
  | held
  | queued
  | sending
  | retained
  deriving DecidableEq, Repr

/-- One frame buffer and its record (section 2.4). `bytes` are the frame's bytes on the line, from header byte 0. -/
structure Buffer where
  state : BufferState
  arrival : Nat
  arrivalPort : Option Port
  egress : Option Port
  retainer : Option Drive
  bytes : List Byte
  deriving DecidableEq, Repr

/-- The pool: 48 buffers and the release-notice flag (R31). The free count is computed. -/
structure Pool where
  buffers : Vector Buffer 48
  releaseNotice : Bool
  deriving DecidableEq, Repr

/-! ## Transmitters (sections 2.5 to 2.7) -/

/-- The two egress queues of a port (section 2.5). -/
inductive Queue where
  | priority
  | transit
  deriving DecidableEq, Repr

/-- One transmitter: its queues, oldest first, its priority run count, its frame in transmission (absent when idle)
and its two port counters (R28, R38, R40). -/
structure Transmitter where
  priority : List Token
  transit : List Token
  runCount : Byte
  sending : Option Token
  sent : Counter
  aged : Counter
  deriving DecidableEq, Repr

/-! ## Stream classifier (section 1.1) -/

/-- Arrival ports that a stream entry accepts. -/
inductive PortSet where
  | cockpit
  | chassis
  | both
  deriving DecidableEq, Repr

/-- The frame kinds that a stream entry accepts. -/
structure KindSet where
  sample : Bool
  demand : Bool
  command : Bool
  ack : Bool
  status : Bool
  deriving DecidableEq, Repr

/-- The six actions (section 1.4). -/
inductive Action where
  | forward
  | tapForward
  | tapAbsorb
  | shape
  | ackTrack
  | drop
  deriving DecidableEq, Repr

/-- A stream table entry (section 1.1). -/
structure StreamEntry where
  enabled : Bool
  base : BitVec 12
  mask : BitVec 12
  ports : PortSet
  kinds : KindSet
  action : Action
  urgent : Bool
  taps : List Channel
  drive : Drive
  deriving DecidableEq, Repr

/-- The stream classifier: table, open-mode flag and counters (R1, R15). -/
structure Classifier where
  table : Vector StreamEntry 24
  openMode : Bool
  matched : Vector Counter 24
  defaulted : Counter
  tapIdle : Counter
  deriving DecidableEq, Repr

/-! ## Sample channels (chapter 3) -/

/-- The roles of a channel (section 3.2). -/
inductive Role where
  | unbound
  | speed
  | rollRate
  | leanAngle
  | riderSteer
  | lockPosition
  | aux
  deriving DecidableEq, Repr

/-- A channel table entry (section 3.1). -/
structure ChannelEntry where
  enabled : Bool
  role : Role
  offset : Fin 16
  freshness : Word
  deriving DecidableEq, Repr

/-- A channel record (section 3.3). -/
structure ChannelRecord where
  value : Option Word
  lastSeq : Option Byte
  timer : Timer
  stale : Bool
  accepted : Counter
  duplicate : Counter
  gap : Counter
  short : Counter
  deriving DecidableEq, Repr

/-- The 16 channels: their table and their records. -/
structure Channels where
  table : Vector ChannelEntry 16
  records : Vector ChannelRecord 16
  deriving DecidableEq, Repr

/-! ## Envelope (chapter 4) -/

/-- An envelope row (section 4.1). Its numbers are the 16-bit words of the canonical encoding (section 11.4). -/
structure EnvelopeRow where
  enabled : Bool
  lowEdge : Word
  leanLimit : Word
  leanStep : Word
  leanPerSteer : Word
  kp : Word
  kd : Word
  tiltDeadband : Word
  steerLimit : Word
  steerStep : Word
  steerDeadband : Word
  deriving DecidableEq, Repr

/-- The envelope: 12 rows and the validity flag (R71, R72). -/
structure Envelope where
  rows : Vector EnvelopeRow 12
  valid : Bool
  deriving DecidableEq, Repr

/-! ## Lean law (section 5.1) -/

/-- The modes of the lean law (section 5.2). -/
inductive Mode where
  | bridge
  | standby
  | active
  | recover
  deriving DecidableEq, Repr

/-- The lock states (section 8.1). -/
inductive LockState where
  | engaged
  | releasing
  | free
  | settling
  | engaging
  deriving DecidableEq, Repr

/-- What started a cycle (section 5.1). -/
inductive Cause where
  | anchor
  | pending
  | timer
  deriving DecidableEq, Repr

/-- The record of the cycle in flight (section 5.1): what it started with and what it computes.
`unitsLeft` is the model's: the units left of the 2 within which the cycle completes (section 5.3). -/
structure Cycle where
  cause : Cause
  startMode : Mode
  startLock : LockState
  speed : Int
  speedStale : Bool
  omega : Int
  theta : Int
  steer : Int
  row : Option (Fin 12)
  target : Int
  error : Int
  command : Int
  unitsLeft : Nat
  deriving DecidableEq, Repr

/-- The ten lean counters, in the order of R109. -/
structure LeanCounters where
  anchorCycles : Counter
  pendingCycles : Counter
  blindCycles : Counter
  overlaps : Counter
  discardedAnchors : Counter
  originated : Counter
  lost : Counter
  withoutRow : Counter
  excursionCycles : Counter
  deferred : Counter
  deriving DecidableEq, Repr

/-- The lean law (section 5.1). -/
structure LeanLaw where
  mode : Mode
  row : Option (Fin 12)
  target : Int
  command : Int
  reported : Int
  tiltSeq : Byte
  cycle : Option Cycle
  pendingAnchor : Bool
  timer : Timer
  excursionRun : Byte
  counters : LeanCounters
  deriving DecidableEq, Repr

/-! ## Steer shaper (section 6.1) -/

/-- The steer shaper: last shaped value, clamped flag and the counters of R123. -/
structure Shaper where
  last : Option Int
  clamped : Bool
  shapedCount : Counter
  bypassedCount : Counter
  clampedCount : Counter
  limitedCount : Counter
  deriving DecidableEq, Repr

/-! ## Drive exchange (section 7.1) -/

/-- The states of a drive slot. -/
inductive SlotState where
  | idle
  | awaiting
  | failed
  deriving DecidableEq, Repr

/-- A drive slot and its counters (section 7.1, R141). -/
structure DriveSlot where
  state : SlotState
  outstanding : Option Byte
  retained : Option Token
  retries : Nat
  misses : Nat
  timer : Timer
  sentCount : Counter
  retryCount : Counter
  missCount : Counter
  lateCount : Counter
  rejectCount : Counter
  deriving DecidableEq, Repr

/-- The two drive slots. -/
structure Drives where
  tilt : DriveSlot
  steer : DriveSlot
  deriving DecidableEq, Repr

/-- One of the two slots. -/
def Drives.get (x : Drives) : Drive → DriveSlot
  | .tilt => x.tilt
  | .steer => x.steer

/-- The slots with one replaced. -/
def Drives.set (x : Drives) (d : Drive) (a : DriveSlot) : Drives :=
  match d with
  | .tilt => { x with tilt := a }
  | .steer => { x with steer := a }

/-! ## Lock supervisor (section 8.1) -/

/-- The lock supervisor: state, LOCK output (true is asserted) and the three timers. -/
structure Lock where
  state : LockState
  output : Bool
  releaseQualify : Timer
  engageQualify : Timer
  confirm : Timer
  deriving DecidableEq, Repr

/-! ## Fault monitor and supply watch (section 9.1) -/

/-- The sixteen fault kinds (section 9.1). -/
inductive FaultKind where
  | staleSpeed
  | staleRollRate
  | staleLean
  | staleRiderSteer
  | staleLockPosition
  | excursion
  | cycleOverrun
  | tiltDriveLost
  | steerDriveLost
  | lockStuck
  | lockNoConfirm
  | lockSlip
  | supplyLow
  | poolExhausted
  | demandClamped
  | linkQuiet
  deriving DecidableEq, Repr

/-- One record of the fault table. The qualifier of LINK_QUIET stands in `Monitor.quietPorts`. -/
structure FaultRecord where
  active : Bool
  latched : Bool
  occurrences : Byte
  deriving DecidableEq, Repr

/-- The fault monitor: fault table, qualifier of LINK_QUIET, ALERT (true is asserted), status frames, supply watch.
`retryDue` says that the pool has told the monitor of a release after a refused claim (R31, R171). -/
structure Monitor where
  faults : Vector FaultRecord 16
  quietPorts : Ports Bool
  alert : Bool
  statusWanted : Bool
  statusInHand : Option Token
  retryDue : Bool
  statusSeq : Byte
  interval : Timer
  supplyLow : Bool
  deriving DecidableEq, Repr

/-! ## Management agent (section 10.1) -/

/-- A request handed over by the classifier (R181). -/
structure Request where
  buffer : Token
  port : Port
  deriving DecidableEq, Repr

/-- The request in hand (R182). -/
structure RequestInHand where
  request : Token
  reply : Token
  port : Port
  deriving DecidableEq, Repr

/-- The stage: empty, or entries of one table, sorted by index, no two with the same index (R185). -/
inductive Stage where
  | empty
  | stream (entries : List (Fin 24 × StreamEntry))
  | channel (entries : List (Fin 16 × ChannelEntry))
  | envelope (entries : List (Fin 12 × EnvelopeRow))
  | param (entries : List (Fin 44 × Word))
  deriving DecidableEq, Repr

/-- The commit-pending record (R191). -/
structure CommitPending where
  reply : Token
  port : Port
  tag : Byte
  seq : Byte
  deriving DecidableEq, Repr

/-- The management agent's own counters, in the order of R197. -/
structure AgentCounters where
  received : Counter
  dropped : Counter
  repliesDone : Counter
  repliesRefused : Counter
  commitsApplied : Counter
  badChecks : Counter
  deriving DecidableEq, Repr

/-- The management agent. -/
structure Agent where
  requests : List Request
  inHand : Option RequestInHand
  stage : Stage
  pendingCommit : Option CommitPending
  params : Vector Word 44
  counters : AgentCounters
  deriving DecidableEq, Repr

/-! ## The whole part -/

/-- The state of the part. `pending` is the queue of commands, `now` the clock in units of 100 µs and `freeIndex`
the number of free values used: these three are the model's own (notes/assumptions 1 and 3). -/
structure State where
  pending : List Instr
  now : Nat
  freeIndex : Nat
  resets : ResetControl
  node : BitVec 6
  rx : Ports Receiver
  pool : Pool
  tx : Ports Transmitter
  classifier : Classifier
  channels : Channels
  envelope : Envelope
  lean : LeanLaw
  shaper : Shaper
  drives : Drives
  lock : Lock
  monitor : Monitor
  agent : Agent
  deriving DecidableEq, Repr

/-! ## Reset values -/

/-- A receiver after reset (R23, R28, R29; QUIET_TIME is then 0). -/
def Receiver.atReset : Receiver :=
  { phase := .idle, quiet := none, good := 0, checkError := 0, long := 0, overrun := 0 }

/-- A buffer in FREE (R31). DESIGN CHOICE (notes/assumptions/11.md): arrival time 0 and no bytes, which the manual
calls not meaningful. -/
def Buffer.empty : Buffer :=
  { state := .free, arrival := 0, arrivalPort := none, egress := none, retainer := none, bytes := [] }

/-- A transmitter after reset (R28, R38, R40). -/
def Transmitter.atReset : Transmitter :=
  { priority := [], transit := [], runCount := 0, sending := none, sent := 0, aged := 0 }

/-- The reset entry of the stream table (R1). -/
def StreamEntry.atReset : StreamEntry :=
  { enabled := false, base := 0, mask := 0, ports := .both,
    kinds := { sample := true, demand := true, command := true, ack := true, status := true },
    action := .drop, urgent := false, taps := [], drive := .tilt }

/-- The reset channel entry (R47). -/
def ChannelEntry.atReset : ChannelEntry :=
  { enabled := false, role := .unbound, offset := 0, freshness := 500 }

/-- A channel record after reset (R50). -/
def ChannelRecord.atReset : ChannelRecord :=
  { value := none, lastSeq := none, timer := none, stale := false,
    accepted := 0, duplicate := 0, gap := 0, short := 0 }

/-- The reset row (R71). -/
def EnvelopeRow.atReset : EnvelopeRow :=
  { enabled := false, lowEdge := 0, leanLimit := 0, leanStep := 1, leanPerSteer := 0, kp := 0, kd := 0,
    tiltDeadband := 0, steerLimit := 0, steerStep := 1, steerDeadband := 0 }

/-- The lean counters at 0 (R85). -/
def LeanCounters.zero : LeanCounters :=
  { anchorCycles := 0, pendingCycles := 0, blindCycles := 0, overlaps := 0, discardedAnchors := 0,
    originated := 0, lost := 0, withoutRow := 0, excursionCycles := 0, deferred := 0 }

/-- The lean law after reset (R85). -/
def LeanLaw.atReset : LeanLaw :=
  { mode := .bridge, row := none, target := 0, command := 0, reported := 0, tiltSeq := 0, cycle := none,
    pendingAnchor := false, timer := none, excursionRun := 0, counters := LeanCounters.zero }

/-- The steer shaper after reset (R111). -/
def Shaper.atReset : Shaper :=
  { last := none, clamped := false, shapedCount := 0, bypassedCount := 0, clampedCount := 0, limitedCount := 0 }

/-- A drive slot after reset (R125). -/
def DriveSlot.atReset : DriveSlot :=
  { state := .idle, outstanding := none, retained := none, retries := 0, misses := 0, timer := none,
    sentCount := 0, retryCount := 0, missCount := 0, lateCount := 0, rejectCount := 0 }

/-- The lock supervisor after reset (R143). -/
def Lock.atReset : Lock :=
  { state := .engaged, output := true, releaseQualify := none, engageQualify := none, confirm := none }

/-- A fault record after reset (R161). -/
def FaultRecord.atReset : FaultRecord :=
  { active := false, latched := false, occurrences := 0 }

/-- The parameter table after reset (section 10.8, R198; the severities of section 9.1 at 24 to 39). -/
def paramReset : Vector Word 44 :=
  #v[4, 50, 4, 1, 30, 2, 5, 40, 8000, 30, 50,
    25, 2, 150, 300, 150, 5000, 10000, 20, 2000, 512, 256,
    0, 0, 2, 2, 2, 2, 1, 2, 1, 3, 3,
    3, 3, 3, 2, 1, 1, 2, 0, 65535, 65535, 0]

/-- The management agent's counters at 0 (R180). -/
def AgentCounters.zero : AgentCounters :=
  { received := 0, dropped := 0, repliesDone := 0, repliesRefused := 0, commitsApplied := 0, badChecks := 0 }

/-- The management agent after reset (R180). -/
def Agent.atReset : Agent :=
  { requests := [], inHand := none, stage := .empty, pendingCommit := none, params := paramReset,
    counters := AgentCounters.zero }

/-- The monitor's values at the end of a reset (R161, R169): ALERT is negated, status-wanted is set. -/
def Monitor.atReset : Monitor :=
  { faults := Vector.replicate 16 FaultRecord.atReset,
    quietPorts := { cockpit := false, chassis := false }, alert := false, statusWanted := true,
    statusInHand := none, retryDue := false, statusSeq := 0, interval := none, supplyLow := false }

/-- Every block at its value for the end of a reset, before the supply is judged (R176) and the start-up status
frame is originated (R173). All three kinds of reset have this effect (00_scope.md section 5.7). -/
def State.resetValues (resets : ResetControl) (node : BitVec 6) (pending : List Instr) (now freeIndex : Nat) :
    State :=
  { pending := pending
    now := now
    freeIndex := freeIndex
    resets := resets
    node := node
    rx := { cockpit := Receiver.atReset, chassis := Receiver.atReset }
    pool := { buffers := Vector.replicate 48 Buffer.empty, releaseNotice := false }
    tx := { cockpit := Transmitter.atReset, chassis := Transmitter.atReset }
    classifier :=
      { table := Vector.replicate 24 StreamEntry.atReset, openMode := true,
        matched := Vector.replicate 24 0, defaulted := 0, tapIdle := 0 }
    channels :=
      { table := Vector.replicate 16 ChannelEntry.atReset, records := Vector.replicate 16 ChannelRecord.atReset }
    envelope := { rows := Vector.replicate 12 EnvelopeRow.atReset, valid := false }
    lean := LeanLaw.atReset
    shaper := Shaper.atReset
    drives := { tilt := DriveSlot.atReset, steer := DriveSlot.atReset }
    lock := Lock.atReset
    monitor := Monitor.atReset
    agent := Agent.atReset }

/-- The payload of the start-up status frame of `State.reset` (section 11.2, R173): BRIDGE, ENGAGED, open mode in
force, no row, no fault, cause PIN, stage empty, node 0. -/
def startupRecord : List Byte :=
  [0, 0, 1, 255, 0, 0, 0, 0, 0, 0, 0, 0, 0, 0, 2, 0, 0, 0]

/-- The part right after reset. DESIGN CHOICE (notes/assumptions/8.md): a pin reset has ended on a sound supply with
the straps at 0. The start-up status frame has been originated and is in transmission (R173, R40, R172). -/
def State.reset : State :=
  let s := State.resetValues
    { power := false, pin := false, management := false, lastBegun := .pin, cause := .pin } 0 [] 0 0
  { s with
    pool := { s.pool with
      buffers := put s.pool.buffers 0
        { state := .sending, arrival := 0, arrivalPort := none, egress := some .cockpit, retainer := none,
          bytes := buildFrame 7 (statusStream 0) 0 startupRecord } }
    tx := { s.tx with cockpit := { s.tx.cockpit with runCount := 1, sending := some 0 } }
    monitor := { s.monitor with statusWanted := false, statusInHand := some 0, statusSeq := 1 } }

end Sys2Proof.Machine
end

