-- ==== Sys2Proof/Machine/Ops.lean ====
section
/-! DEFINITION. The operations that every block shares: arithmetic (00_scope.md section 5.2), counters, timers,
parameters, the buffer pool (section 2.4), the channels by role (R62), and what a held reset does to a command. -/

namespace Sys2Proof.Machine

/-! ## Arithmetic -/

/-- Clamp `x` to ±`l` (00_scope.md section 5.2). -/
def clampTo (x l : Int) : Int := if l < x then l else if x < -l then -l else x

/-- Move `p` toward `q` by at most `step` (00_scope.md section 5.2). -/
def moveToward (p q step : Int) : Int :=
  if q - p ≤ step ∧ p - q ≤ step then q else if p < q then p + step else p - step

/-- |x| (00_scope.md section 5.2). -/
def magnitude (x : Int) : Int := x.natAbs

/-- A counter one higher; it saturates at 65 535 (00_scope.md sections 5.1 and 5.2). -/
def bump (c : Counter) : Counter := if c = 0xFFFF#16 then c else c + 1

/-- A count one higher; it saturates at 255 (00_scope.md section 5.2). -/
def bumpByte (c : Byte) : Byte := if c = 0xFF#8 then c else c + 1

/-! ## Timers (00_scope.md section 5.6) -/

/-- The timer has fallen due. -/
def timerDue (t : Timer) : Bool := t == some 0

/-- A timer whose duration 0 means off (R29, R172). -/
def startUnlessZero (n : Nat) : Timer := if n = 0 then none else some n

/-! ## Parameters (section 10.8) -/

/-- The value in force of the parameter with this index. -/
def param (i : Fin 44) (s : State) : Nat := (look s.agent.params i).toNat

def originReserve (s : State) : Nat := param 0 s
def transitAge (s : State) : Nat := param 1 s
def priorityBurst (s : State) : Nat := param 2 s
def defaultAction (s : State) : Nat := param 3 s
def ackTimeout (s : State) : Nat := param 4 s
def retryLimit (s : State) : Nat := param 5 s
def missLimit (s : State) : Nat := param 6 s
def cycleLimit (s : State) : Nat := param 7 s
def tiltMax (s : State) : Nat := param 8 s
def bandHyst (s : State) : Nat := param 9 s
def excThresh (s : State) : Nat := param 10 s
def excCount (s : State) : Nat := param 11 s
def recoveryStep (s : State) : Nat := param 12 s
def recoverSteer (s : State) : Nat := param 13 s
def releaseSpeed (s : State) : Nat := param 14 s
def engageSpeed (s : State) : Nat := param 15 s
def releaseDelay (s : State) : Nat := param 16 s
def engageDelay (s : State) : Nat := param 17 s
def uprightWin (s : State) : Nat := param 18 s
def confirmTime (s : State) : Nat := param 19 s
def lockThresh (s : State) : Nat := param 20 s
def trackSteer (s : State) : Nat := param 22 s
def quietTime (s : State) : Nat := param 23 s
def statusInterval (s : State) : Nat := param 40 s

/-- TILT_STREAM in force (R104). -/
def tiltStream (s : State) : BitVec 12 := BitVec.ofNat 12 (param 21 s)

/-- ALERT_MASK in force (R168). -/
def alertMask (s : State) : Word := look s.agent.params 41

/-- STATUS_MASK in force (R170). -/
def statusMask (s : State) : Word := look s.agent.params 42

/-! ## Held resets (R177) -/

/-- A reset of this kind is held. -/
def resetHeld (k : ResetKind) (r : ResetControl) : Bool :=
  match k with
  | .power => r.power
  | .pin => r.pin
  | .management => r.management

/-- The part is in reset (R177). -/
def inReset (s : State) : Bool := s.resets.power || s.resets.pin || s.resets.management

/-- A command's effect outside reset. While a reset is held all the part's state is that of reset and no frame is
taken (R175, R177, R161): the command changes nothing (notes/assumptions/7.md). -/
def unlessReset (f : State → State) (s : State) : Host.Outcome State Fault Refusal :=
  .next (if inReset s then s else f s)

/-! ## Buffers (section 2.4) -/

/-- Buffer `t` and its record. -/
def buffer (t : Token) (s : State) : Buffer := look s.pool.buffers t

/-- Buffer `t` replaced. -/
def putBuffer (t : Token) (b : Buffer) (s : State) : State :=
  { s with pool := { s.pool with buffers := put s.pool.buffers t b } }

/-- The FREE buffer with the lowest token (R32, R33). -/
def lowestFree (s : State) : Option Token :=
  (List.finRange 48).find? fun t => (buffer t s).state == .free

/-- The free count: the number of buffers in FREE (R31). -/
def freeCount (s : State) : Nat :=
  (List.finRange 48).countP fun t => (buffer t s).state == .free

/-- Buffer `t` in another state. -/
def setBufferState (t : Token) (b : BufferState) (s : State) : State :=
  putBuffer t { buffer t s with state := b } s

/-- Buffer `t` with other contents. -/
def setBytes (t : Token) (bs : List Byte) (s : State) : State :=
  putBuffer t { buffer t s with bytes := bs } s

/-- Buffer `t` with another retainer (R36). -/
def setRetainer (t : Token) (d : Option Drive) (s : State) : State :=
  putBuffer t { buffer t s with retainer := d } s

/-- The pool tells the monitor of a release when the release-notice flag is set, and clears the flag (R31, R171).
The monitor's claim is the step STATUS_CLAIM_RETRY (notes/assumptions/5.md). -/
def noticeRelease (s : State) : State :=
  if s.pool.releaseNotice then
    { s with
      pool := { s.pool with releaseNotice := false }
      monitor := { s.monitor with retryDue := true } }
  else s

/-- Release of a buffer (R35). -/
def releaseBuffer (t : Token) (s : State) : State :=
  noticeRelease (putBuffer t Buffer.empty s)

/-- A claim under the arrival rule takes buffer `t` for a frame with this header from port `p` (R25, R32). -/
def receiveInto (t : Token) (p : Port) (header : List Byte) (s : State) : State :=
  putBuffer t
    { state := .receiving, arrival := s.now, arrivalPort := some p, egress := none, retainer := none,
      bytes := header } s

/-- A claim under the origin rule takes buffer `t` (R33). -/
def holdForOrigin (t : Token) (s : State) : State :=
  putBuffer t
    { state := .held, arrival := s.now, arrivalPort := none, egress := none, retainer := none, bytes := [] } s

/-! ## Receivers, transmitters, slots: one replaced -/

def setRx (p : Port) (r : Receiver) (s : State) : State := { s with rx := s.rx.set p r }
def setTx (p : Port) (x : Transmitter) (s : State) : State := { s with tx := s.tx.set p x }
def setSlot (d : Drive) (x : DriveSlot) (s : State) : State := { s with drives := s.drives.set d x }

/-! ## Channels by role (R62) -/

/-- The enabled channel of a channel table that holds the role: by R49 there is at most one. -/
def holderOf (table : Vector ChannelEntry 16) (r : Role) : Option Channel :=
  (List.finRange 16).find? fun c => (look table c).enabled && (look table c).role == r

/-- The channel bound to a role, or none. -/
def boundChannel (r : Role) (s : State) : Option Channel := holderOf s.channels.table r

/-- The value read for a role, an absent value or an unbound role taken as 0 (R62, R96). -/
def roleValue (r : Role) (s : State) : Int :=
  match boundChannel r s with
  | none => 0
  | some c =>
    match (look s.channels.records c).value with
    | none => 0
    | some w => w.toInt

/-- The stale flag read for a role: an unbound role reads as stale (R62, R96). -/
def roleStale (r : Role) (s : State) : Bool :=
  match boundChannel r s with
  | none => true
  | some c => (look s.channels.records c).stale

/-- A required role is ready: bound, value present, stale flag clear (R63). -/
def roleReady (r : Role) (s : State) : Bool :=
  match boundChannel r s with
  | none => false
  | some c => (look s.channels.records c).value.isSome && !(look s.channels.records c).stale

/-- The required roles (R63). -/
def requiredRoles : List Role := [.speed, .rollRate, .leanAngle, .riderSteer, .lockPosition]

/-- A role is required (R63). -/
def isRequired (r : Role) : Bool := requiredRoles.contains r

end Sys2Proof.Machine
end

