-- ==== Sys2Proof/Machine/Operands.lean ====
section
/-! DEFINITION. The layouts of chapter 11 as operands: canonical table entries written as bytes and read back, and
the codes of requests, tables, counter groups and results. -/

namespace Sys2Proof.Machine

/-! ## Small codes -/

/-- A yes or no byte (section 11.4). -/
def flagByte (b : Bool) : Byte := if b then 1 else 0

/-- A yes or no byte read whole: a byte other than 0 or 1 is out of range (R201). -/
def readFlag (b : Byte) : Option Bool :=
  match b.toNat with
  | 0 => some false
  | 1 => some true
  | _ => none

/-- A twelve-bit field read from a whole word: above 4095 it is out of range (R16, R201). -/
def readTwelve (w : Word) : Option (BitVec 12) :=
  if w.toNat ≤ 4095 then some (w.setWidth 12) else none

def portSetCode : PortSet → Byte
  | .cockpit => 1
  | .chassis => 2
  | .both => 3

def readPortSet (b : Byte) : Option PortSet :=
  match b.toNat with
  | 1 => some .cockpit
  | 2 => some .chassis
  | 3 => some .both
  | _ => none

/-- The kinds byte: bit 0 SAMPLE, 1 DEMAND, 2 COMMAND, 3 ACK, 4 STATUS (section 11.4). -/
def kindsCode (k : KindSet) : Byte :=
  flagByte k.sample ||| (flagByte k.demand <<< 1) ||| (flagByte k.command <<< 2) ||| (flagByte k.ack <<< 3)
    ||| (flagByte k.status <<< 4)

/-- The kinds byte read: empty, or with a bit of 5 to 7 set, it is out of range (R16, R201). -/
def readKinds (b : Byte) : Option KindSet :=
  if b.toNat = 0 ∨ 32 ≤ b.toNat then none
  else
    some
      { sample := b.getLsbD 0, demand := b.getLsbD 1, command := b.getLsbD 2, ack := b.getLsbD 3,
        status := b.getLsbD 4 }

def actionCode : Action → Byte
  | .forward => 1
  | .tapForward => 2
  | .tapAbsorb => 3
  | .shape => 4
  | .ackTrack => 5
  | .drop => 6

def readAction (b : Byte) : Option Action :=
  match b.toNat with
  | 1 => some .forward
  | 2 => some .tapForward
  | 3 => some .tapAbsorb
  | 4 => some .shape
  | 5 => some .ackTrack
  | 6 => some .drop
  | _ => none

def driveCode : Drive → Byte
  | .tilt => 1
  | .steer => 2

def readDrive (b : Byte) : Option Drive :=
  match b.toNat with
  | 1 => some .tilt
  | 2 => some .steer
  | _ => none

def roleCode : Role → Byte
  | .unbound => 0
  | .speed => 1
  | .rollRate => 2
  | .leanAngle => 3
  | .riderSteer => 4
  | .lockPosition => 5
  | .aux => 6

def readRole (b : Byte) : Option Role :=
  match b.toNat with
  | 0 => some .unbound
  | 1 => some .speed
  | 2 => some .rollRate
  | 3 => some .leanAngle
  | 4 => some .riderSteer
  | 5 => some .lockPosition
  | 6 => some .aux
  | _ => none

/-- A byte as an index below `n`: none beyond (R201). -/
def readIndex (n : Nat) (b : Byte) : Option (Fin n) :=
  if h : b.toNat < n then some ⟨b.toNat, h⟩ else none

/-! ## Stream entries (section 11.4) -/

/-- The channel number of tap slot `i`, 0 beyond the count. -/
def tapByte (taps : List Channel) (i : Nat) : Byte :=
  match taps[i]? with
  | some c => BitVec.ofNat 8 c.val
  | none => 0

/-- The canonical encoding of a stream entry, 15 bytes. -/
def streamBytes (e : StreamEntry) : List Byte :=
  [flagByte e.enabled] ++ wordBytes (e.base.setWidth 16) ++ wordBytes (e.mask.setWidth 16)
    ++ [portSetCode e.ports, kindsCode e.kinds, actionCode e.action, flagByte e.urgent,
        BitVec.ofNat 8 e.taps.length, tapByte e.taps 0, tapByte e.taps 1, tapByte e.taps 2, tapByte e.taps 3,
        driveCode e.drive]

/-- The bytes are channel numbers, no number twice (R16). -/
def readTapList : List Byte → Option (List Channel)
  | [] => some []
  | b :: rest =>
    match readIndex 16 b, readTapList rest with
    | some c, some cs => if cs.contains c then none else some (c :: cs)
    | _, _ => none

/-- The tap list of a count byte and four slots: unused slots hold 0 (R16, R201). -/
def readTaps (count : Byte) (slots : List Byte) : Option (List Channel) :=
  if count.toNat ≤ 4 ∧ (slots.drop count.toNat).all (· == 0) then readTapList (slots.take count.toNat) else none

/-- A stream entry read from its canonical bytes: none where a field is out of range (R16, R201). -/
def readStreamEntry (bs : List Byte) : Option StreamEntry :=
  match readFlag (byteAt bs 0), readTwelve (wordAt bs 1), readTwelve (wordAt bs 3), readPortSet (byteAt bs 5),
    readKinds (byteAt bs 6), readAction (byteAt bs 7), readFlag (byteAt bs 8),
    readTaps (byteAt bs 9) [byteAt bs 10, byteAt bs 11, byteAt bs 12, byteAt bs 13], readDrive (byteAt bs 14) with
  | some enabled, some base, some mask, some ports, some kinds, some action, some urgent, some taps, some drive =>
    some
      { enabled := enabled, base := base, mask := mask, ports := ports, kinds := kinds, action := action,
        urgent := urgent, taps := taps, drive := drive }
  | _, _, _, _, _, _, _, _, _ => none

/-! ## Channel entries (section 11.4) -/

/-- The canonical encoding of a channel entry, 5 bytes. -/
def channelBytes (e : ChannelEntry) : List Byte :=
  [flagByte e.enabled, roleCode e.role, BitVec.ofNat 8 e.offset.val] ++ wordBytes e.freshness

/-- The record that READ_ENTRY appends, 6 bytes: an absent value or sequence is written as 0 (R64, R201). -/
def recordBytes (r : ChannelRecord) : List Byte :=
  [flagByte r.value.isSome] ++ wordBytes (r.value.getD 0) ++ [flagByte r.lastSeq.isSome, r.lastSeq.getD 0]
    ++ [flagByte r.stale]

/-- A channel entry read from its canonical bytes: none where a field is out of range (R66, R201). -/
def readChannelEntry (bs : List Byte) : Option ChannelEntry :=
  match readFlag (byteAt bs 0), readRole (byteAt bs 1), readIndex 16 (byteAt bs 2) with
  | some enabled, some role, some offset =>
    if wordAt bs 3 = 0 then none
    else some { enabled := enabled, role := role, offset := offset, freshness := wordAt bs 3 }
  | _, _, _ => none

/-! ## Envelope rows (section 11.4) -/

/-- The canonical encoding of an envelope row, 22 bytes. -/
def rowBytes (r : EnvelopeRow) : List Byte :=
  wordBytes (if r.enabled then 1 else 0) ++ wordBytes r.lowEdge ++ wordBytes r.leanLimit ++ wordBytes r.leanStep
    ++ wordBytes r.leanPerSteer ++ wordBytes r.kp ++ wordBytes r.kd ++ wordBytes r.tiltDeadband
    ++ wordBytes r.steerLimit ++ wordBytes r.steerStep ++ wordBytes r.steerDeadband

/-- Every field of the row is within the range of section 4.1 (R72, R73). -/
def rowInRange (r : EnvelopeRow) : Bool :=
  r.lowEdge.toNat ≤ 32767 && r.leanLimit.toNat ≤ 450 && 1 ≤ r.leanStep.toNat && r.leanStep.toNat ≤ 100
    && r.leanPerSteer.toNat ≤ 2048 && r.kp.toNat ≤ 1023 && r.kd.toNat ≤ 1023 && r.tiltDeadband.toNat ≤ 2000
    && r.steerLimit.toNat ≤ 900 && 1 ≤ r.steerStep.toNat && r.steerStep.toNat ≤ 900
    && r.steerDeadband.toNat ≤ 100

/-- An envelope row read from its canonical bytes: none where a field is out of range (R73, R201). -/
def readEnvelopeRow (bs : List Byte) : Option EnvelopeRow :=
  if (wordAt bs 0).toNat ≤ 1 then
    let r : EnvelopeRow :=
      { enabled := wordAt bs 0 == 1, lowEdge := wordAt bs 2, leanLimit := wordAt bs 4, leanStep := wordAt bs 6,
        leanPerSteer := wordAt bs 8, kp := wordAt bs 10, kd := wordAt bs 12, tiltDeadband := wordAt bs 14,
        steerLimit := wordAt bs 16, steerStep := wordAt bs 18, steerDeadband := wordAt bs 20 }
    if rowInRange r then some r else none
  else none

/-! ## Parameters (section 10.8) -/

/-- Least and greatest value of the parameter with this index (section 10.8). DEFAULT_ACTION is not an interval and
is judged by `paramInRange`. -/
def paramRange (i : Fin 44) : Nat × Nat :=
  match i.val with
  | 0 => (0, 16)
  | 1 => (1, 10000)
  | 2 => (1, 8)
  | 3 => (1, 6)
  | 4 => (5, 1000)
  | 5 => (0, 7)
  | 6 => (1, 15)
  | 7 => (10, 200)
  | 8 => (1, 32767)
  | 9 => (0, 500)
  | 10 => (1, 300)
  | 11 => (1, 255)
  | 12 => (1, 50)
  | 13 => (0, 900)
  | 14 => (1, 3000)
  | 15 => (0, 2999)
  | 16 => (0, 65535)
  | 17 => (0, 65535)
  | 18 => (0, 100)
  | 19 => (10, 65535)
  | 20 => (0, 32767)
  | 21 => (0, 3839)
  | 22 => (0, 1)
  | 23 => (0, 65535)
  | 40 => (0, 65535)
  | 41 => (0, 65535)
  | 42 => (0, 65535)
  | 43 => (0, 0)
  | _ => (0, 3)

/-- A value is in the range of its parameter; DEFAULT_ACTION takes the codes 1 and 6 only (R198, section 11.4). -/
def paramInRange (i : Fin 44) (w : Word) : Bool :=
  (paramRange i).1 ≤ w.toNat && w.toNat ≤ (paramRange i).2 && (i.val != 3 || w == 1 || w == 6)

/-- A parameter value read from its canonical bytes: none where it is out of range (R198). -/
def readParam (i : Fin 44) (bs : List Byte) : Option Word :=
  if paramInRange i (wordAt bs 0) then some (wordAt bs 0) else none

/-! ## Codes of management (section 11.3) -/

/-- The four tables. -/
inductive TableName where
  | stream
  | channel
  | envelope
  | param
  deriving DecidableEq, Repr

def tableCode : TableName → Byte
  | .stream => 1
  | .channel => 2
  | .envelope => 3
  | .param => 4

def readTable (b : Byte) : Option TableName :=
  match b.toNat with
  | 1 => some .stream
  | 2 => some .channel
  | 3 => some .envelope
  | 4 => some .param
  | _ => none

/-- The number of entries of a table. -/
def tableSize : TableName → Nat
  | .stream => 24
  | .channel => 16
  | .envelope => 12
  | .param => 44

/-- The bytes of one canonical entry (section 11.3). -/
def entrySize : TableName → Nat
  | .stream => 15
  | .channel => 5
  | .envelope => 22
  | .param => 2

/-- The eleven requests (section 11.3). -/
inductive RequestCode where
  | readState
  | readEntry
  | stageEntry
  | discardStage
  | commit
  | readCounters
  | clearCounters
  | clearFaults
  | engageControl
  | releaseControl
  | reset
  deriving DecidableEq, Repr

def readRequestCode (b : Byte) : Option RequestCode :=
  match b.toNat with
  | 1 => some .readState
  | 2 => some .readEntry
  | 3 => some .stageEntry
  | 4 => some .discardStage
  | 5 => some .commit
  | 6 => some .readCounters
  | 7 => some .clearCounters
  | 8 => some .clearFaults
  | 9 => some .engageControl
  | 10 => some .releaseControl
  | 11 => some .reset
  | _ => none

/-- The length a request needs (section 11.3, R200): for STAGE_ENTRY it includes the named table's entry, and is 4
where the table byte names no table. -/
def neededLength (code : RequestCode) (payload : List Byte) : Nat :=
  match code with
  | .readEntry => 4
  | .stageEntry =>
    match readTable (byteAt payload 2) with
    | some t => 4 + entrySize t
    | none => 4
  | .commit => 5
  | .readCounters => 4
  | .clearCounters => 3
  | .readState | .discardStage | .clearFaults | .engageControl | .releaseControl | .reset => 2

/-- The request code a payload carries, where it holds one that names a request. -/
def requestCode (payload : List Byte) : Option RequestCode :=
  if 2 ≤ payload.length then readRequestCode (byteAt payload 1) else none

/-- A request is malformed: too short for a tag and a code, a code that names no request, or too short for its
arguments (R183, R200). -/
def requestMalformed (payload : List Byte) : Bool :=
  match requestCode payload with
  | none => true
  | some c => payload.length < neededLength c payload

/-- The results of a request (R183). -/
inductive Result where
  | done
  | busy
  | badRequest
  | badTable
  | badIndex
  | badValue
  | badCheck
  | stageConflict
  | stageFull
  | stageEmpty
  | refusedMode
  | refusedFault
  | notReady
  deriving DecidableEq, Repr

def resultCode : Result → Byte
  | .done => 0
  | .busy => 1
  | .badRequest => 2
  | .badTable => 3
  | .badIndex => 4
  | .badValue => 5
  | .badCheck => 6
  | .stageConflict => 7
  | .stageFull => 8
  | .stageEmpty => 9
  | .refusedMode => 10
  | .refusedFault => 11
  | .notReady => 12

/-- The seven counter groups (section 10.7). -/
inductive CounterGroup where
  | cockpitPort
  | chassisPort
  | stream
  | channel
  | lean
  | drive
  | mgmt
  deriving DecidableEq, Repr

def readGroup (b : Byte) : Option CounterGroup :=
  match b.toNat with
  | 1 => some .cockpitPort
  | 2 => some .chassisPort
  | 3 => some .stream
  | 4 => some .channel
  | 5 => some .lean
  | 6 => some .drive
  | 7 => some .mgmt
  | _ => none

def modeCode : Mode → Byte
  | .bridge => 0
  | .standby => 1
  | .active => 2
  | .recover => 3

def lockCode : LockState → Byte
  | .engaged => 0
  | .releasing => 1
  | .free => 2
  | .settling => 3
  | .engaging => 4

def causeCode : ResetKind → Byte
  | .power => 1
  | .pin => 2
  | .management => 3

/-- A row number, or 255 for none (R201). -/
def rowCode : Option (Fin 12) → Byte
  | none => 255
  | some r => BitVec.ofNat 8 r.val

end Sys2Proof.Machine
end

