-- ==== Sys2Proof/Machine/Flags.lean ====
section
/-! DEFINITION. The flags of the fault monitor: fault records, severities, ALERT, and the state record (sections
9.1 to 9.7). -/

namespace Sys2Proof.Machine

/-- The index of a fault kind (section 9.1). -/
def faultIndex : FaultKind → Fin 16
  | .staleSpeed => 0
  | .staleRollRate => 1
  | .staleLean => 2
  | .staleRiderSteer => 3
  | .staleLockPosition => 4
  | .excursion => 5
  | .cycleOverrun => 6
  | .tiltDriveLost => 7
  | .steerDriveLost => 8
  | .lockStuck => 9
  | .lockNoConfirm => 10
  | .lockSlip => 11
  | .supplyLow => 12
  | .poolExhausted => 13
  | .demandClamped => 14
  | .linkQuiet => 15

/-- The record of a kind. -/
def faultRecord (k : FaultKind) (s : State) : FaultRecord := look s.monitor.faults (faultIndex k)

/-- The record of a kind replaced. -/
def putFault (k : FaultKind) (r : FaultRecord) (s : State) : State :=
  { s with monitor := { s.monitor with faults := put s.monitor.faults (faultIndex k) r } }

/-- The severity in force of the kind with this index: the parameter at 24 + index (R164, section 10.8). -/
def severityAt (i : Fin 16) (s : State) : Nat := param ⟨24 + i.val, by omega⟩ s

/-- The severity in force of a kind (R164). -/
def severity (k : FaultKind) (s : State) : Nat := severityAt (faultIndex k) s

/-- The kind is a member of STATUS_MASK in force (R170). -/
def inStatusMask (k : FaultKind) (s : State) : Bool := (statusMask s).getLsbD (faultIndex k).val

/-- The set of indices for which `f` holds, as a 16-bit word: bit `k` for kind `k` (section 11.2). -/
def indexSet (f : Fin 16 → Bool) : Word :=
  (List.finRange 16).foldl (fun w i => if f i then w ||| (1#16 <<< i.val) else w) 0

/-- The kinds whose active flag is yes (R174). -/
def activeSet (s : State) : Word := indexSet fun i => (look s.monitor.faults i).active

/-- The kinds whose latched flag is yes (R174). -/
def latchedSet (s : State) : Word := indexSet fun i => (look s.monitor.faults i).latched

/-- A latched kind is a member of ALERT_MASK in force (R168). -/
def alertWanted (s : State) : Bool :=
  (List.finRange 16).any fun i => (look s.monitor.faults i).latched && (alertMask s).getLsbD i.val

/-- ALERT judged (R168). -/
def judgeAlert (s : State) : State :=
  { s with monitor := { s.monitor with alert := alertWanted s } }

/-- A kind whose severity in force is at least `n` is latched (R166: 3 for the release inhibit, 2 for the engage
refusal). -/
def latchedAtSeverity (n : Nat) (s : State) : Bool :=
  (List.finRange 16).any fun i => (look s.monitor.faults i).latched && decide (n ≤ severityAt i s)

/-- The stale fault kind of a role, if it has one (section 3.2). -/
def staleKind : Role → Option FaultKind
  | .unbound => none
  | .speed => some .staleSpeed
  | .rollRate => some .staleRollRate
  | .leanAngle => some .staleLean
  | .riderSteer => some .staleRiderSteer
  | .lockPosition => some .staleLockPosition
  | .aux => none

/-- The drive-lost kind of a slot (R135). -/
def lostKind : Drive → FaultKind
  | .tilt => .tiltDriveLost
  | .steer => .steerDriveLost

/-- The stage's table code, 0 when it is empty (section 11.2). -/
def stageCode : Stage → Byte
  | .empty => 0
  | .stream _ => 1
  | .channel _ => 2
  | .envelope _ => 3
  | .param _ => 4

/-- The number of entries in the stage (R185). -/
def stageCount : Stage → Nat
  | .empty => 0
  | .stream es => es.length
  | .channel es => es.length
  | .envelope es => es.length
  | .param es => es.length

/-- The flags byte of the state record (section 11.2). -/
def recordFlags (s : State) : Byte :=
  flagByte s.classifier.openMode ||| (flagByte s.envelope.valid <<< 1)
    ||| (flagByte s.agent.pendingCommit.isSome <<< 2) ||| (flagByte s.monitor.quietPorts.cockpit <<< 3)
    ||| (flagByte s.monitor.quietPorts.chassis <<< 4)

/-- The state record, 18 bytes (R174, section 11.2). -/
def stateRecord (s : State) : List Byte :=
  [modeCode s.lean.mode, lockCode s.lock.state, recordFlags s, rowCode s.lean.row]
    ++ wordBytes (signedWord s.lean.target) ++ wordBytes (signedWord s.lean.reported)
    ++ wordBytes (signedWord s.lean.command) ++ wordBytes (activeSet s) ++ wordBytes (latchedSet s)
    ++ [causeCode s.resets.cause, stageCode s.agent.stage, BitVec.ofNat 8 (stageCount s.agent.stage),
        s.node.setWidth 8]

end Sys2Proof.Machine
end

