-- ==== Sys2Proof/Machine/Queues.lean ====
section
/-! DEFINITION. The egress queues, the arbiter and the beginning of a transmission (sections 2.5 to 2.7). -/

namespace Sys2Proof.Machine

/-- A slot is told that a transmission of its retained buffer has ended: it starts its ack timer (R130). -/
def tellSlot (d : Drive) (t : Token) (s : State) : State :=
  let x := s.drives.get d
  if x.state = .awaiting ∧ x.retained = some t then setSlot d { x with timer := some (ackTimeout s) } s else s

/-- The status frame's payload and check are written as its transmission begins, and status-wanted is cleared
(R172). -/
def fillStatus (t : Token) (s : State) : State :=
  let filled := setBytes t (withCheck ((buffer t s).bytes.take 4 ++ stateRecord s)) s
  { filled with monitor := { filled.monitor with statusWanted := false } }

/-- The chosen buffer becomes SENDING and the frame in transmission (R44). -/
def beginTransmission (p : Port) (t : Token) (s : State) : State :=
  let sending := setTx p { s.tx.get p with sending := some t } (setBufferState t .sending s)
  if p = .cockpit ∧ s.monitor.statusInHand = some t then fillStatus t sending else sending

/-- The age of a buffer: the time since its arrival time (R41). -/
def age (t : Token) (s : State) : Nat := s.now - (buffer t s).arrival

/-- A TRANSIT head that is too old is taken off; with a retainer it becomes RETAINED and its slot is told (R41,
R43). `rest` is the queue behind it. -/
def ageOut (p : Port) (t : Token) (rest : List Token) (s : State) : State :=
  let x := s.tx.get p
  let taken := setTx p { x with transit := rest, aged := bump x.aged } s
  match (buffer t s).retainer with
  | none => releaseBuffer t taken
  | some d => tellSlot d t (setBufferState t .retained taken)

/-- Aging at a pick, along the TRANSIT queue: it stops at the first head that is not too old (R41). -/
def ageHeads (p : Port) : List Token → State → State
  | [], s => s
  | t :: rest, s => if transitAge s < age t s then ageHeads p rest (ageOut p t rest s) else s

/-- The choice of the arbiter after aging (R42). -/
def choose (p : Port) (s : State) : State :=
  let x := s.tx.get p
  match x.priority, x.transit with
  | [], [] => s
  | t :: rest, [] => beginTransmission p t (setTx p { x with priority := rest, runCount := bumpByte x.runCount } s)
  | [], t :: rest => beginTransmission p t (setTx p { x with transit := rest, runCount := 0 } s)
  | t :: rest, u :: others =>
    if x.runCount.toNat < priorityBurst s then
      beginTransmission p t (setTx p { x with priority := rest, runCount := bumpByte x.runCount } s)
    else
      beginTransmission p u (setTx p { x with transit := others, runCount := 0 } s)

/-- A pick: aging first, then choice (R40). -/
def pick (p : Port) (s : State) : State := choose p (ageHeads p (s.tx.get p).transit s)

/-- A token at the tail of a queue. -/
def appendTo (p : Port) (q : Queue) (t : Token) (s : State) : State :=
  let x := s.tx.get p
  match q with
  | .priority => setTx p { x with priority := x.priority ++ [t] } s
  | .transit => setTx p { x with transit := x.transit ++ [t] } s

/-- A buffer is added to a queue and becomes QUEUED; an idle transmitter makes a pick (R38). -/
def enqueue (p : Port) (q : Queue) (t : Token) (s : State) : State :=
  let b := buffer t s
  let added := appendTo p q t (putBuffer t { b with state := .queued, egress := some (b.egress.getD p) } s)
  if (s.tx.get p).sending = none then pick p added else added

/-- A token is taken out of the queues wherever it stands (R39). -/
def unqueue (t : Token) (s : State) : State :=
  let cut (x : Transmitter) : Transmitter :=
    { x with priority := x.priority.filter (· != t), transit := x.transit.filter (· != t) }
  { s with tx := { cockpit := cut s.tx.cockpit, chassis := cut s.tx.chassis } }

/-- Forwarding: the buffer joins a queue of the port opposite its arrival port (R7). -/
def forward (arrival : Port) (urgent : Bool) (t : Token) (s : State) : State :=
  enqueue arrival.opposite (if urgent then .priority else .transit) t s

end Sys2Proof.Machine
end

