-- ==== Sys2Proof/Machine/Monitor.lean ====
section
/-! DEFINITION. The fault monitor: taking a report with its reactions, status frames, origin claims, and the status
and supply commands (chapter 9). -/

namespace Sys2Proof.Machine

/-! ## Reactions at the lean law and the lock -/

/-- The lock supervisor is told that the mode has left ACTIVE (R150). -/
def lockModeLeft (s : State) : State :=
  match s.lock.state with
  | .engaged => { s with lock := { s.lock with releaseQualify := none } }
  | .releasing => { s with lock := { s.lock with state := .engaged, output := true, confirm := none } }
  | .free | .settling | .engaging => s

/-- The lock supervisor is told of a new latch of severity 3 (R157). -/
def lockInhibit (s : State) : State :=
  match s.lock.state with
  | .engaged => { s with lock := { s.lock with releaseQualify := none } }
  | .releasing | .free | .settling | .engaging => s

/-! ## Taking a report (R162)

`want` says what happens when status-wanted is to be set. Reports that a status frame's own origin claim makes find
it set already (R171); every other report sets it and so may originate a frame. -/

/-- Status-wanted is set and nothing else: it is set already. -/
def setWanted (s : State) : State := { s with monitor := { s.monitor with statusWanted := true } }

/-- A report that a kind is inactive (R162). -/
def takeInactive (want : State → State) (k : FaultKind) (s : State) : State :=
  if severity k s = 0 ∨ (faultRecord k s).active = false then s
  else
    let changed := putFault k { faultRecord k s with active := false } s
    if inStatusMask k s then want changed else changed

/-- The lean law moves from ACTIVE to RECOVER (R88): EXCURSION is reported inactive and the lock supervisor is
told, in this order and after the mode has changed, which is the model's choice (notes/assumptions/27.md). In any other
mode nothing changes. -/
def leaveActive (want : State → State) (s : State) : State :=
  match s.lean.mode with
  | .active => lockModeLeft (takeInactive want .excursion { s with lean := { s.lean with mode := .recover } })
  | .bridge | .standby | .recover => s

/-- The severity reactions when a kind has become active (R165, R166). -/
def react (want : State → State) (k : FaultKind) (s : State) : State :=
  let told := if 3 ≤ severity k s then lockInhibit s else s
  if 2 ≤ severity k s then leaveActive want told else told

/-- A report that a kind is active (R162): the record, then the reactions, the status-wanted flag and ALERT. -/
def takeActive (want : State → State) (k : FaultKind) (s : State) : State :=
  if severity k s = 0 ∨ (faultRecord k s).active = true then s
  else
    let r := faultRecord k s
    let reacted :=
      react want k
        (putFault k { active := true, latched := true, occurrences := bumpByte r.occurrences } s)
    judgeAlert (if inStatusMask k s then want reacted else reacted)

/-- A report of a kind, active or inactive (R162). -/
def take (want : State → State) (k : FaultKind) (active : Bool) (s : State) : State :=
  if active then takeActive want k s else takeInactive want k s

/-! ## Status frames (R171) -/

/-- The status frame is built in buffer `t`, becomes the frame in hand and is queued (R171). Its payload and check
are written when its transmission begins. -/
def launchStatus (t : Token) (s : State) : State :=
  let built := setBytes t (headerBytes 7 (statusStream s.node) s.monitor.statusSeq 18) s
  enqueue .cockpit .priority t
    { built with
      monitor :=
        { built.monitor with
          statusSeq := built.monitor.statusSeq + 1, statusWanted := false, statusInHand := some t } }

/-- The monitor originates a status frame: origin claim, and the frame or the wait for a release (R171, R33).
It is called with status-wanted set and no frame in hand. -/
def originateStatus (s : State) : State :=
  match lowestFree s with
  | some t => launchStatus t (take setWanted .poolExhausted false (holdForOrigin t s))
  | none =>
    let refused := take setWanted .poolExhausted true s
    { refused with pool := { refused.pool with releaseNotice := true } }

/-- Status-wanted is to be set: when it becomes set with no frame in hand, a frame is originated (R170, R171).
Setting it while it is set changes nothing. -/
def wantStatus (s : State) : State :=
  if s.monitor.statusWanted then s
  else if s.monitor.statusInHand = none then originateStatus (setWanted s) else setWanted s

/-- A report to the fault monitor (R162). -/
def report (k : FaultKind) (active : Bool) (s : State) : State := take wantStatus k active s

/-- The lean law's move from ACTIVE to RECOVER, as a request other than the monitor's own makes it (R88). -/
def moveToRecover (s : State) : State := leaveActive wantStatus s

/-! ## LINK_QUIET (R163) -/

/-- A receiver reports its port quiet (R29, R163). -/
def reportPortQuiet (p : Port) (s : State) : State :=
  if severity .linkQuiet s = 0 ∨ s.monitor.quietPorts.get p = true then s
  else
    let added := { s with monitor := { s.monitor with quietPorts := s.monitor.quietPorts.set p true } }
    if s.monitor.quietPorts.get p.opposite then added else report .linkQuiet true added

/-- A receiver reports its port heard (R29, R163). -/
def reportPortHeard (p : Port) (s : State) : State :=
  if severity .linkQuiet s = 0 ∨ s.monitor.quietPorts.get p = false then s
  else
    let removed := { s with monitor := { s.monitor with quietPorts := s.monitor.quietPorts.set p false } }
    if s.monitor.quietPorts.get p.opposite then removed else report .linkQuiet false removed

/-! ## Origin claims of the other blocks (R33) -/

/-- A claim under the origin rule by the lean law or the management agent: the buffer it takes, if any, and the
state after the pool's report (R33). -/
def claimOrigin (s : State) : Option Token × State :=
  match lowestFree s with
  | some t => (some t, report .poolExhausted false (holdForOrigin t s))
  | none => (none, report .poolExhausted true s)

/-! ## Commands of the monitor -/

/-- Effect of STATUS_CLAIM_RETRY: the monitor claims again at the release it was told of, while status-wanted is
still set and no frame is in hand (R171). -/
def statusClaimRetry (s : State) : State :=
  if s.monitor.retryDue then
    let told := { s with monitor := { s.monitor with retryDue := false } }
    if s.monitor.statusWanted ∧ s.monitor.statusInHand = none then originateStatus told else told
  else s

/-- STATUS_CLAIM_RETRY (R171). -/
def execStatusClaimRetry (s : State) : Host.Outcome State Fault Refusal := unlessReset statusClaimRetry s

/-- Effect of STATUS_INTERVAL_EXPIRY: the timer is started again with STATUS_INTERVAL in force and status-wanted is
set (R172, R170). -/
def statusIntervalExpiry (s : State) : State :=
  if timerDue s.monitor.interval then
    wantStatus { s with monitor := { s.monitor with interval := startUnlessZero (statusInterval s) } }
  else s

/-- STATUS_INTERVAL_EXPIRY (R172). -/
def execStatusIntervalExpiry (s : State) : Host.Outcome State Fault Refusal := unlessReset statusIntervalExpiry s

/-- Effect of SUPPLY_LOW: in NORMAL the watch goes LOW and reports SUPPLY_LOW active (R175). -/
def supplyFell (s : State) : State :=
  if s.monitor.supplyLow then s
  else report .supplyLow true { s with monitor := { s.monitor with supplyLow := true } }

/-- SUPPLY_LOW (R175). -/
def execSupplyLow (s : State) : Host.Outcome State Fault Refusal := unlessReset supplyFell s

/-- Effect of SUPPLY_RESTORED: in LOW the watch goes NORMAL and reports SUPPLY_LOW inactive (R175). -/
def supplyRose (s : State) : State :=
  if s.monitor.supplyLow then
    report .supplyLow false { s with monitor := { s.monitor with supplyLow := false } }
  else s

/-- SUPPLY_RESTORED (R175). -/
def execSupplyRestored (s : State) : Host.Outcome State Fault Refusal := unlessReset supplyRose s

end Sys2Proof.Machine
end

