-- ==== Sys2Proof/Machine/Drives.lean ====
section
/-! DEFINITION. The drive exchange: the TILT and STEER slots (chapter 7). -/

namespace Sys2Proof.Machine

/-- A slot lets a buffer go: its retainer becomes absent, and a RETAINED buffer is released at once (R36). -/
def letGo (t : Token) (s : State) : State :=
  match (buffer t s).state with
  | .retained => releaseBuffer t s
  | .free | .receiving | .held | .queued | .sending => setRetainer t none s

/-- A slot withdraws a buffer: RETAINED is released, QUEUED is taken out of its queue and released, SENDING loses
its retainer (R36, R39). -/
def withdraw (t : Token) (s : State) : State :=
  match (buffer t s).state with
  | .retained => releaseBuffer t s
  | .queued => releaseBuffer t (unqueue t s)
  | .sending => setRetainer t none s
  | .free | .receiving | .held => s

/-- `letGo` or `withdraw` on an optional buffer. -/
def onBuffer (f : Token → State → State) (t : Option Token) (s : State) : State :=
  match t with
  | none => s
  | some t => f t s

/-- A slot with nothing outstanding: no sequence, no buffer, no retries, timer stopped, in state `final` (R131, R133,
R135). -/
def emptied (x : DriveSlot) (final : SlotState) : DriveSlot :=
  { x with state := final, outstanding := none, retained := none, retries := 0, timer := none }

/-- A slot counts a miss; the miss that reaches MISS_LIMIT loses the drive (R135). -/
def countMiss (d : Drive) (s : State) : State :=
  let x := s.drives.get d
  let counted := { x with misses := x.misses + 1, missCount := bump x.missCount }
  if x.misses + 1 = missLimit s then
    report (lostKind d) true (setSlot d (emptied counted .failed) (onBuffer letGo x.retained s))
  else setSlot d counted s

/-- A slot takes a command as its outstanding command and marks the buffer with itself as retainer (R127). -/
def takeCommand (d : Drive) (t : Token) (seq : Byte) (s : State) : State :=
  let x := s.drives.get d
  setSlot d { x with state := .awaiting, outstanding := some seq, retained := some t, retries := 0 }
    (setRetainer t (some d) s)

/-- A new command supersedes the outstanding one: withdrawn, timer stopped, one miss counted (R128). -/
def supersede (d : Drive) (s : State) : State :=
  let x := s.drives.get d
  countMiss d (setSlot d { x with outstanding := none, retained := none, timer := none } (onBuffer withdraw x.retained s))

/-- A command is handed to a slot (R126): taken in IDLE (R127), superseding in AWAITING (R128), untracked in FAILED
(R129). -/
def handOver (d : Drive) (t : Token) (seq : Byte) (s : State) : State :=
  let x := s.drives.get d
  let counted := setSlot d { x with sentCount := bump x.sentCount } s
  match x.state with
  | .idle => takeCommand d t seq counted
  | .awaiting =>
    let superseded := supersede d counted
    if (superseded.drives.get d).state = .failed then superseded else takeCommand d t seq superseded
  | .failed => counted

/-- A late acknowledgement (R132, R200). -/
def lateAck (d : Drive) (s : State) : State :=
  let x := s.drives.get d
  setSlot d { x with lateCount := bump x.lateCount } s

/-- A matching acknowledgement with result OK (R133). -/
def ackOk (d : Drive) (s : State) : State :=
  let x := s.drives.get d
  setSlot d { emptied x .idle with misses := 0 } (onBuffer letGo x.retained s)

/-- A matching acknowledgement with result REJECT (R134). -/
def ackReject (d : Drive) (s : State) : State :=
  let x := s.drives.get d
  countMiss d
    (setSlot d { emptied x .idle with rejectCount := bump x.rejectCount } (onBuffer letGo x.retained s))

/-- An acknowledgement's payload delivered to a slot (R132, R200): result 1 is OK, any other is taken as REJECT. -/
def deliverAck (d : Drive) (payload : List Byte) (s : State) : State :=
  let x := s.drives.get d
  if payload.length < 2 then lateAck d s
  else if x.state = .awaiting ∧ x.outstanding = some (byteAt payload 0) then
    if byteAt payload 1 = 1 then ackOk d s else ackReject d s
  else lateAck d s

/-- A retry: the retained buffer goes to PRIORITY of its egress port (R131, R38). An egress port is always present
then; the model takes the chassis port where it is not (notes/assumptions/24.md). -/
def retry (d : Drive) (t : Token) (s : State) : State :=
  let x := s.drives.get d
  enqueue ((buffer t s).egress.getD .chassis) .priority t
    (setSlot d { x with retries := x.retries + 1, retryCount := bump x.retryCount } s)

/-- What follows the miss of an expired ack timer that leaves the slot AWAITING: a retry, or the end (R131). -/
def retryOrEnd (d : Drive) (s : State) : State :=
  let x := s.drives.get d
  match x.retained with
  | some t =>
    if x.retries < retryLimit s then retry d t s
    else setSlot d (emptied x .idle) (letGo t s)
  | none => setSlot d (emptied x .idle) s

/-- Effect of ACK_TIMER_EXPIRY (R131). -/
def ackTimerExpiry (d : Drive) (s : State) : State :=
  let x := s.drives.get d
  if timerDue x.timer ∧ x.state = .awaiting then
    let missed := countMiss d (setSlot d { x with timer := none } s)
    if (missed.drives.get d).state = .failed then missed else retryOrEnd d missed
  else s

/-- ACK_TIMER_EXPIRY (R131). -/
def execAckTimerExpiry (d : Drive) (s : State) : Host.Outcome State Fault Refusal :=
  unlessReset (ackTimerExpiry d) s

/-- A slot at CLEAR_FAULTS: FAILED becomes IDLE with miss count 0 and reports its drive-lost kind inactive (R136). -/
def clearSlot (d : Drive) (s : State) : State :=
  let x := s.drives.get d
  match x.state with
  | .failed => report (lostKind d) false (setSlot d { x with state := .idle, misses := 0 } s)
  | .idle | .awaiting => s

end Sys2Proof.Machine
end

