-- ==== Sys2Proof/Machine/LockSupervisor.lean ====
section
/-! DEFINITION. The lock supervisor (chapter 8). Each move of the lock state comes before the reports it makes
(notes/assumptions/13.md); the order of those reports among themselves is the model's (notes/assumptions 25 and 26). -/

namespace Sys2Proof.Machine

/-- The hand-back: the lock is reported ENGAGED, and a lean law in RECOVER moves to STANDBY (R155, R89). -/
def handBack (s : State) : State :=
  match s.lean.mode with
  | .recover => { s with lean := { s.lean with mode := .standby } }
  | .bridge | .standby | .active => s

/-- The move to RELEASING: LOCK is negated and the confirm timer started (R147). -/
def enterReleasing (s : State) : State :=
  { s with
    lock :=
      { s.lock with
        state := .releasing, output := false, releaseQualify := none, confirm := some (confirmTime s) } }

/-- The move to FREE: LOCK is negated, the engage-qualify timer stopped (R148, R152). -/
def enterFree (s : State) : State :=
  { s with lock := { s.lock with state := .free, output := false, engageQualify := none } }

/-- The move to SETTLING: LOCK stays negated (R151). -/
def enterSettling (s : State) : State :=
  { s with lock := { s.lock with state := .settling, output := false, engageQualify := none } }

/-- The move to ENGAGING: LOCK is asserted and the confirm timer started (R152). -/
def enterEngaging (s : State) : State :=
  { s with lock := { s.lock with state := .engaging, output := true, confirm := some (confirmTime s) } }

/-- The move to ENGAGED: LOCK is asserted, the confirm timer and the release-qualify timer are stopped (R149,
R153). -/
def enterEngaged (s : State) : State :=
  { s with lock := { s.lock with state := .engaged, output := true, releaseQualify := none, confirm := none } }

/-- The release conditions (R146). -/
def releaseConditions (speed lean : Int) (s : State) : Bool :=
  s.lean.mode == .active && decide ((releaseSpeed s : Int) ≤ magnitude speed)
    && decide (magnitude lean ≤ (uprightWin s : Int)) && !latchedAtSeverity 3 s

/-- A fresh completion report in ENGAGED (R146). -/
def reportEngaged (speed lean : Int) (s : State) : State :=
  if releaseConditions speed lean s then
    if releaseDelay s = 0 then enterReleasing s
    else if s.lock.releaseQualify = none then
      { s with lock := { s.lock with releaseQualify := some (releaseDelay s) } }
    else s
  else { s with lock := { s.lock with releaseQualify := none } }

/-- The settle conditions (R151). -/
def settleConditions (speed : Int) (s : State) : Bool :=
  decide (magnitude speed < (engageSpeed s : Int))
    || (s.lean.mode != .active && decide (magnitude speed < (releaseSpeed s : Int)))

/-- A fresh completion report in FREE (R151). -/
def reportFree (speed : Int) (s : State) : State :=
  if settleConditions speed s then
    if engageDelay s = 0 then enterSettling s
    else if s.lock.engageQualify = none then
      { s with lock := { s.lock with engageQualify := some (engageDelay s) } }
    else s
  else { s with lock := { s.lock with engageQualify := none } }

/-- A fresh completion report in SETTLING (R152). -/
def reportSettling (speed lean : Int) (s : State) : State :=
  if s.lean.mode = .active ∧ (releaseSpeed s : Int) ≤ magnitude speed then enterFree s
  else if magnitude lean ≤ (uprightWin s : Int) then enterEngaging s
  else s

/-- A fresh completion report by lock state; RELEASING and ENGAGING change nothing (R145). -/
def reportFresh (speed lean : Int) (s : State) : State :=
  match s.lock.state with
  | .engaged => reportEngaged speed lean s
  | .free => reportFree speed s
  | .settling => reportSettling speed lean s
  | .releasing | .engaging => s

/-- A completion report with the speed stale flag set: both qualify timers are stopped (R145). -/
def reportStale (s : State) : State :=
  { s with lock := { s.lock with releaseQualify := none, engageQualify := none } }

/-- The lean law's report at a completion (R145), with the hand-back when it is taken in ENGAGED (R155). -/
def completionReport (speed lean : Int) (stale : Bool) (s : State) : State :=
  let judged := if stale then reportStale s else reportFresh speed lean s
  match s.lock.state with
  | .engaged => handBack judged
  | .releasing | .free | .settling | .engaging => judged

/-- A lock position sample reads engaged (R144). -/
def readsEngaged (value : Word) (s : State) : Bool := decide ((lockThresh s : Int) ≤ value.toInt)

/-- A lock position signal (R148, R153, R154). The model's choice where the manual gives no order: at a confirmation the
report of LOCK_STUCK or LOCK_NO_CONFIRM comes before that of LOCK_SLIP (notes/assumptions/25.md), and at an engagement
confirmation the hand-back, with its reading of the mode, comes after both (notes/assumptions/26.md). -/
def lockSignal (value : Word) (s : State) : State :=
  let engaged := readsEngaged value s
  match s.lock.state with
  | .engaged => report .lockSlip (!engaged) s
  | .free => report .lockSlip engaged s
  | .releasing =>
    if engaged then s
    else
      let freed := enterFree s
      report .lockSlip false
        (report .lockStuck false { freed with lock := { freed.lock with confirm := none } })
  | .engaging =>
    if engaged then handBack (report .lockSlip false (report .lockNoConfirm false (enterEngaged s))) else s
  | .settling => s

/-- The lock supervisor at CLEAR_FAULTS reports LOCK_STUCK inactive (R158). -/
def clearLock (s : State) : State := report .lockStuck false s

/-- Effect of RELEASE_QUALIFY_EXPIRY: in ENGAGED the supervisor moves to RELEASING (R147). -/
def releaseQualifyExpiry (s : State) : State :=
  if timerDue s.lock.releaseQualify ∧ s.lock.state = .engaged then enterReleasing s else s

/-- RELEASE_QUALIFY_EXPIRY (R147). -/
def execReleaseQualifyExpiry (s : State) : Host.Outcome State Fault Refusal := unlessReset releaseQualifyExpiry s

/-- Effect of CONFIRM_EXPIRY_RELEASING: back to ENGAGED, LOCK_STUCK reported active (R149). -/
def confirmExpiryReleasing (s : State) : State :=
  if timerDue s.lock.confirm ∧ s.lock.state = .releasing then report .lockStuck true (enterEngaged s) else s

/-- CONFIRM_EXPIRY_RELEASING (R149). -/
def execConfirmExpiryReleasing (s : State) : Host.Outcome State Fault Refusal :=
  unlessReset confirmExpiryReleasing s

/-- Effect of ENGAGE_QUALIFY_EXPIRY: in FREE the supervisor moves to SETTLING (R151). -/
def engageQualifyExpiry (s : State) : State :=
  if timerDue s.lock.engageQualify ∧ s.lock.state = .free then enterSettling s else s

/-- ENGAGE_QUALIFY_EXPIRY (R151). -/
def execEngageQualifyExpiry (s : State) : Host.Outcome State Fault Refusal := unlessReset engageQualifyExpiry s

/-- Effect of CONFIRM_EXPIRY_ENGAGING: LOCK_NO_CONFIRM reported active, the lock stays ENGAGING (R153). -/
def confirmExpiryEngaging (s : State) : State :=
  if timerDue s.lock.confirm ∧ s.lock.state = .engaging then
    report .lockNoConfirm true { s with lock := { s.lock with confirm := none } }
  else s

/-- CONFIRM_EXPIRY_ENGAGING (R153). -/
def execConfirmExpiryEngaging (s : State) : Host.Outcome State Fault Refusal := unlessReset confirmExpiryEngaging s

end Sys2Proof.Machine
end

