-- ==== Sys2Proof/Machine/EnvelopeTable.lean ====
section
/-! DEFINITION. The envelope: validity, band selection with hysteresis, and the application of a commit (chapter 4). -/

namespace Sys2Proof.Machine

/-- The envelope is valid (R72). -/
def envelopeValid (rows : Vector EnvelopeRow 12) : Bool :=
  (look rows 0).enabled && (look rows 0).lowEdge == 0
    && ((List.finRange 11).all fun i =>
      !(look rows i.succ).enabled
        || ((look rows i.castSucc).enabled
          && decide ((look rows i.castSucc).lowEdge.toNat < (look rows i.succ).lowEdge.toNat)))
    && ((List.finRange 12).all fun i => rowInRange (look rows i))

/-- Plain selection: the highest enabled row whose low edge is at most the speed magnitude (R79). -/
def plainRow (rows : Vector EnvelopeRow 12) (speed : Int) : Option (Fin 12) :=
  (List.finRange 12).reverse.find? fun i =>
    (look rows i).enabled && decide (((look rows i).lowEdge.toNat : Int) ≤ speed)

/-- The upward pass (R80); the first argument bounds the moves, of which there are at most 11. -/
def passUp (rows : Vector EnvelopeRow 12) (speed hyst : Int) : Nat → Fin 12 → Fin 12
  | 0, r => r
  | n + 1, r =>
    if h : r.val + 1 < 12 then
      let above : Fin 12 := ⟨r.val + 1, h⟩
      if (look rows above).enabled ∧ ((look rows above).lowEdge.toNat : Int) + hyst ≤ speed then
        passUp rows speed hyst n above
      else r
    else r

/-- The downward pass (R80); the first argument bounds the moves, of which there are at most 11. -/
def passDown (rows : Vector EnvelopeRow 12) (speed hyst : Int) : Nat → Fin 12 → Fin 12
  | 0, r => r
  | n + 1, r =>
    if 0 < r.val ∧ speed < ((look rows r).lowEdge.toNat : Int) - hyst then
      passDown rows speed hyst n ⟨r.val - 1, by omega⟩
    else r

/-- Band selection from the speed magnitude (R78 to R81). -/
def selectRow (env : Envelope) (selected : Option (Fin 12)) (speed hyst : Int) : Option (Fin 12) :=
  if env.valid then
    match selected with
    | none => plainRow env.rows speed
    | some r => some (passDown env.rows speed hyst 11 (passUp env.rows speed hyst 11 r))
  else none

/-- Staged entries written over a table (R190). -/
def overlay {α : Type} {n : Nat} (v : Vector α n) (entries : List (Fin n × α)) : Vector α n :=
  entries.foldl (fun v e => put v e.1 e.2) v

/-- The application of an ENVELOPE commit: rows replaced, validity flag set, selected row none, last shaped value
absent, stage emptied (R75, R191). -/
def applyEnvelope (entries : List (Fin 12 × EnvelopeRow)) (s : State) : State :=
  { s with
    envelope := { rows := overlay s.envelope.rows entries, valid := true }
    lean := { s.lean with row := none }
    shaper := { s.shaper with last := none }
    agent :=
      { s.agent with
        stage := .empty
        counters := { s.agent.counters with commitsApplied := bump s.agent.counters.commitsApplied } } }

end Sys2Proof.Machine
end

