-- ==== Sys2Proof/Machine/Agent.lean ====
section
/-! DEFINITION. The management agent's handling of requests: the list, beginning, replying, and the reply of a
pending commit (sections 10.1 and 10.5). -/

namespace Sys2Proof.Machine

/-- The agent's counters replaced. -/
def setAgentCounters (f : AgentCounters → AgentCounters) (s : State) : State :=
  { s with agent := { s.agent with counters := f s.agent.counters } }

/-- A request is dropped for want of a reply buffer: its buffer is released and it is counted (R182). -/
def dropRequest (t : Token) (s : State) : State :=
  setAgentCounters (fun c => { c with dropped := bump c.dropped }) (releaseBuffer t s)

/-- Requests begun from the head of a list until one is in hand or the list is empty (R182). -/
def beginFrom : List Request → State → State
  | [], s => { s with agent := { s.agent with requests := [] } }
  | r :: rest, s =>
    match claimOrigin { s with agent := { s.agent with requests := rest } } with
    | (some t, claimed) =>
      { claimed with
        agent := { claimed.agent with inHand := some { request := r.buffer, reply := t, port := r.port } } }
    | (none, refused) => beginFrom rest (dropRequest r.buffer refused)

/-- When no request is in hand the agent begins the request at the head of its list (R181). -/
def beginRequests (s : State) : State :=
  if s.agent.inHand = none then beginFrom s.agent.requests s else s

/-- A management request to self is handed to the agent (R181, R3). -/
def takeRequest (t : Token) (p : Port) (s : State) : State :=
  let listed := { s with agent := { s.agent with requests := s.agent.requests ++ [{ buffer := t, port := p }] } }
  beginRequests (setAgentCounters (fun c => { c with received := bump c.received }) listed)

/-- A management reply (R183, section 11.3): a reply whose result is not DONE carries no data. -/
def replyFrame (node : BitVec 6) (seq tag code : Byte) (r : Result) (data : List Byte) : List Byte :=
  buildFrame 6 (managementStream node) seq ([tag, code, resultCode r] ++ if r = .done then data else [])

/-- A reply is counted by its result (R197). -/
def countReply (r : Result) (s : State) : State :=
  setAgentCounters
    (fun c =>
      if r = .done then { c with repliesDone := bump c.repliesDone }
      else { c with repliesRefused := bump c.repliesRefused })
    s

/-- The tag byte of a request: 0 where the payload does not hold it (R183, R200). -/
def tagByte (payload : List Byte) : Byte := byteAt payload 0

/-- The code byte of a request: 0 where the payload does not hold it (R183, R200). -/
def codeByte (payload : List Byte) : Byte := byteAt payload 1

/-- No request is in hand any more, and the next one in the list is begun (R183, R181). -/
def nextRequest (s : State) : State :=
  beginRequests { s with agent := { s.agent with inHand := none } }

/-- The reply to the request `rq` is built in its reply buffer, the request buffer released, the reply queued on
PRIORITY of the request's arrival port and counted (R183). -/
def queueReply (rq : RequestInHand) (r : Result) (data : List Byte) (s : State) : State :=
  let frame := (buffer rq.request s).bytes
  let payload := framePayload frame
  let reply := replyFrame s.node (frameSeq frame) (tagByte payload) (codeByte payload) r data
  countReply r (enqueue rq.port .priority rq.reply (setBytes rq.reply reply (releaseBuffer rq.request s)))

/-- The request in hand is answered, and the next request begun (R183). -/
def answer (r : Result) (data : List Byte) (s : State) : State :=
  match s.agent.inHand with
  | none => s
  | some rq => nextRequest (queueReply rq r data s)

/-- The payload of the request in hand, where it carries this code. -/
def requestInHand (code : RequestCode) (s : State) : Option (List Byte) :=
  match s.agent.inHand with
  | none => none
  | some rq =>
    let payload := framePayload (buffer rq.request s).bytes
    if requestCode payload = some code then some payload else none

/-- The completion of the request in hand, where it carries this code: too short for its arguments it is answered
BAD_REQUEST before any other judgement (R200), else it is executed. With no such request in hand the step cannot
occur and nothing changes (notes/assumptions 6 and 14). -/
def completeRequest (code : RequestCode) (execute : List Byte → State → State) (s : State) : State :=
  match requestInHand code s with
  | none => s
  | some payload =>
    if payload.length < neededLength code payload then answer .badRequest [] s else execute payload s

/-- A pending ENVELOPE commit is applied at a completion: rows, flag, selected row, last shaped value and stage, then
the DONE reply in the held buffer with the recorded tag and sequence (R107, R191). With no commit pending nothing
changes. -/
def applyPendingCommit (s : State) : State :=
  match s.agent.pendingCommit with
  | none => s
  | some pc =>
    let entries := match s.agent.stage with
      | .envelope es => es
      | .empty | .stream _ | .channel _ | .param _ => []
    let applied := applyEnvelope entries s
    let counted :=
      { applied with
        lean :=
          { applied.lean with
            counters := { applied.lean.counters with deferred := bump applied.lean.counters.deferred } }
        agent := { applied.agent with pendingCommit := none } }
    countReply .done
      (enqueue pc.port .priority pc.reply
        (setBytes pc.reply (replyFrame s.node pc.seq pc.tag 5 .done []) counted))

end Sys2Proof.Machine
end

