-- ==== Sys2Proof/Machine/LeanCycle.lean ====
section
/-! DEFINITION. The lean law: cycles, target, tilt command and completion (chapter 5). -/

namespace Sys2Proof.Machine

/-- The lean counters replaced. -/
def setLeanCounters (f : LeanCounters → LeanCounters) (s : State) : State :=
  { s with lean := { s.lean with counters := f s.lean.counters } }

/-! ## What a cycle computes (R98 to R101) -/

/-- The raw target of a cycle with a row (R98). -/
def rawTarget (mode : Mode) (lock : LockState) (steer : Int) (row : EnvelopeRow) : Int :=
  match mode, lock with
  | .active, .free | .active, .releasing => (steer * (row.leanPerSteer.toNat : Int)).tdiv 256
  | _, _ => 0

/-- The step of a cycle with a row (R99). -/
def targetStep (mode : Mode) (lock : LockState) (recovery : Int) (row : EnvelopeRow) : Int :=
  if mode = .recover ∨ lock = .settling then recovery else (row.leanStep.toNat : Int)

/-- The lean target of a cycle (R99, R100). -/
def leanTarget (mode : Mode) (lock : LockState) (previous steer recovery : Int) (row : Option EnvelopeRow) : Int :=
  match mode, row with
  | .active, some r | .recover, some r =>
    clampTo (moveToward previous (rawTarget mode lock steer r) (targetStep mode lock recovery r))
      (r.leanLimit.toNat : Int)
  | _, _ => 0

/-- The tilt command value before the lock is looked at (R101, steps 2 to 4). -/
def freeCommand (error omega tiltMax : Int) (r : EnvelopeRow) : Int :=
  let raw := ((r.kp.toNat : Int) * error - (r.kd.toNat : Int) * omega).tdiv 64
  let clamped := clampTo raw tiltMax
  if magnitude clamped < (r.tiltDeadband.toNat : Int) then 0 else clamped

/-- The tilt command value u of a cycle (R101, R100, R102): 0 without a row and in STANDBY. -/
def tiltCommand (mode : Mode) (lock : LockState) (error omega tiltMax : Int) (row : Option EnvelopeRow) : Int :=
  match mode, row with
  | .active, some r | .recover, some r =>
    if lock = .engaged ∨ lock = .engaging then 0 else freeCommand error omega tiltMax r
  | _, _ => 0

/-- The record of a cycle that starts now: snapshot, row and what it computes from them (R96, R97). -/
def newCycle (cause : Cause) (row : Option (Fin 12)) (s : State) : Cycle :=
  let fields := row.map (look s.envelope.rows)
  let theta := roleValue .leanAngle s
  let omega := roleValue .rollRate s
  let steer := roleValue .riderSteer s
  let target := leanTarget s.lean.mode s.lock.state s.lean.target steer (recoveryStep s) fields
  { cause := cause, startMode := s.lean.mode, startLock := s.lock.state, speed := roleValue .speed s,
    speedStale := roleStale .speed s, omega := omega, theta := theta, steer := steer, row := row,
    target := target, error := target - theta,
    command := tiltCommand s.lean.mode s.lock.state (target - theta) omega (tiltMax s) fields,
    unitsLeft := Config.cycleUnits }

/-- The counter of a cycle start (R109). -/
def countStart (cause : Cause) (row : Option (Fin 12)) (c : LeanCounters) : LeanCounters :=
  let started :=
    match cause with
    | .anchor => { c with anchorCycles := bump c.anchorCycles }
    | .pending => { c with pendingCycles := bump c.pendingCycles }
    | .timer => { c with blindCycles := bump c.blindCycles }
  if row = none then { started with withoutRow := bump started.withoutRow } else started

/-- A cycle starts: band selection, record, cycle timer, counters (R96, R78, R92). Cycles do not start in BRIDGE
(R78). -/
def startCycle (cause : Cause) (s : State) : State :=
  match s.lean.mode with
  | .bridge => s
  | .standby | .active | .recover =>
    let row := selectRow s.envelope s.lean.row (magnitude (roleValue .speed s)) (bandHyst s)
    { s with
      lean :=
        { s.lean with
          row := row, cycle := some (newCycle cause row s), timer := some (cycleLimit s),
          counters := countStart cause row s.lean.counters } }

/-- An anchor signal (R91). It does not reach the lean law in BRIDGE. -/
def anchorSignal (s : State) : State :=
  match s.lean.mode with
  | .bridge => s
  | .standby | .active | .recover =>
    if s.lean.cycle = none then startCycle .anchor s
    else if s.lean.pendingAnchor = false then
      setLeanCounters (fun c => { c with overlaps := bump c.overlaps })
        { s with lean := { s.lean with pendingAnchor := true } }
    else
      report .cycleOverrun true
        (setLeanCounters (fun c => { c with discardedAnchors := bump c.discardedAnchors }) s)

/-! ## Completion (R102 to R108) -/

/-- The completion's results are recorded and the cycle in flight becomes absent (R102). -/
def recordResults (c : Cycle) (s : State) : State :=
  { s with
    lean := { s.lean with target := c.target, command := c.command, reported := c.theta, cycle := none } }

/-- A mode that sends tilt commands (R103). -/
def sendingMode : Mode → Bool
  | .active | .recover => true
  | .bridge | .standby => false

/-- The payload of a tilt command (section 11.2). -/
def tiltPayload (c : Cycle) : List Byte :=
  wordBytes (signedWord c.command) ++ wordBytes (signedWord c.target) ++ [modeCode c.startMode, rowCode c.row]

/-- A tilt command is built in buffer `t`, handed to the TILT slot and queued on chassis PRIORITY (R104). -/
def launchTilt (c : Cycle) (t : Token) (s : State) : State :=
  let seq := s.lean.tiltSeq
  let built := setBytes t (buildFrame 3 (tiltStream s) seq (tiltPayload c)) s
  let advanced := { built with lean := { built.lean with tiltSeq := seq + 1 } }
  setLeanCounters (fun k => { k with originated := bump k.originated })
    (enqueue .chassis .priority t (handOver .tilt t seq advanced))

/-- The completion originates a tilt command when R103 says so; a refused claim loses it (R104, R105). -/
def originateTilt (c : Cycle) (s : State) : State :=
  if sendingMode c.startMode && sendingMode s.lean.mode && c.row.isSome then
    match claimOrigin s with
    | (some t, claimed) => launchTilt c t claimed
    | (none, refused) => setLeanCounters (fun k => { k with lost := bump k.lost }) refused
  else s

/-- Excursion is judged at an ACTIVE completion of a cycle started in ACTIVE (R108). The model's choice is that the mode
is read here, after the origination that R102 puts before it: a completion whose own tilt command or refused claim has
moved ACTIVE to RECOVER is not judged (notes/assumptions/29.md). -/
def judgeExcursion (c : Cycle) (s : State) : State :=
  if c.startMode = .active ∧ s.lean.mode = .active then
    if (excThresh s : Int) < magnitude c.error then
      let run := bumpByte s.lean.excursionRun
      let counted :=
        setLeanCounters (fun k => { k with excursionCycles := bump k.excursionCycles })
          { s with lean := { s.lean with excursionRun := run } }
      if excCount s ≤ run.toNat then report .excursion true counted else counted
    else report .excursion false { s with lean := { s.lean with excursionRun := 0 } }
  else s

/-- The pending anchor at a completion: it starts a cycle, or CYCLE_OVERRUN is reported inactive (R94). That this report
comes last in the completion, in the place that R102 gives the start, is the model's choice (notes/assumptions/31.md). -/
def pendingAnchorStart (s : State) : State :=
  if s.lean.pendingAnchor then startCycle .pending { s with lean := { s.lean with pendingAnchor := false } }
  else report .cycleOverrun false s

/-- Effect of CYCLE_COMPLETION, in the order of R102: results, tilt command, excursion, lock report, pending commit,
pending anchor. With no cycle in flight nothing changes. -/
def cycleCompletion (s : State) : State :=
  match s.lean.cycle with
  | none => s
  | some c =>
    recordResults c s |> originateTilt c |> judgeExcursion c |> completionReport c.speed c.theta c.speedStale
      |> applyPendingCommit |> pendingAnchorStart

/-- CYCLE_COMPLETION (R102). -/
def execCycleCompletion (s : State) : Host.Outcome State Fault Refusal := unlessReset cycleCompletion s

/-- Effect of CYCLE_TIMER_EXPIRY: in ACTIVE and RECOVER a blind cycle starts, in STANDBY nothing does and the timer
stays stopped (R92, R93). No expiry comes while a cycle is in flight (R92); were one in flight, none would start
(notes/assumptions/18.md). -/
def cycleTimerExpiry (s : State) : State :=
  if timerDue s.lean.timer then
    let stopped := { s with lean := { s.lean with timer := none } }
    if sendingMode s.lean.mode ∧ s.lean.cycle = none then startCycle .timer stopped else stopped
  else s

/-- CYCLE_TIMER_EXPIRY (R92). -/
def execCycleTimerExpiry (s : State) : Host.Outcome State Fault Refusal := unlessReset cycleTimerExpiry s

end Sys2Proof.Machine
end

