-- ==== Sys2Proof/Machine/SampleChannels.lean ====
section
/-! DEFINITION. The sample channels: taps, freshness and signals (chapter 3). -/

namespace Sys2Proof.Machine

/-- The record of a channel replaced. -/
def putRecord (c : Channel) (r : ChannelRecord) (s : State) : State :=
  { s with channels := { s.channels with records := put s.channels.records c r } }

/-- The signals that the taps of one frame have raised (R59 to R61). -/
structure Signals where
  anchor : Bool
  lockPosition : Option Word
  deriving DecidableEq, Repr

/-- No signal. -/
def noSignals : Signals := { anchor := false, lockPosition := none }

/-- A stale condition of a role is reported, if the role has a stale fault kind (section 3.2). -/
def reportStaleOf (r : Role) (active : Bool) (s : State) : State :=
  match staleKind r with
  | none => s
  | some k => report k active s

/-- The signal that an accepted sample raises by its role (R59, R60). -/
def raiseSignal (r : Role) (value : Word) (g : Signals) : Signals :=
  match r with
  | .rollRate => { g with anchor := true }
  | .lockPosition => { g with lockPosition := some value }
  | .unbound | .speed | .leanAngle | .riderSteer | .aux => g

/-- The sequence is neither the first nor the next one: a gap (R53). -/
def isGap (last : Option Byte) (seq : Byte) : Bool :=
  match last with
  | none => false
  | some l => seq != l + 1

/-- A channel's word lies beyond a payload of this length (R51). -/
def wordBeyond (offset : Fin 16) (length : Nat) : Bool := decide (length < 2 * offset.val + 2)

/-- The record after an accepted sample (R53, R55). -/
def acceptedRecord (e : ChannelEntry) (r : ChannelRecord) (seq : Byte) (value : Word) : ChannelRecord :=
  { r with
    value := some value, lastSeq := some seq, timer := some e.freshness.toNat, stale := false,
    accepted := bump r.accepted, gap := if isGap r.lastSeq seq then bump r.gap else r.gap }

/-- One tap of channel `c` by a frame (R14, R51 to R55), with the signals raised so far in that frame. -/
def tap (frame : List Byte) (c : Channel) (g : Signals) (s : State) : Signals × State :=
  let e := look s.channels.table c
  let r := look s.channels.records c
  if e.enabled = false then
    (g, { s with classifier := { s.classifier with tapIdle := bump s.classifier.tapIdle } })
  else if wordBeyond e.offset (frameLength frame) then (g, putRecord c { r with short := bump r.short } s)
  else if r.lastSeq = some (frameSeq frame) then (g, putRecord c { r with duplicate := bump r.duplicate } s)
  else
    let value := wordAt (framePayload frame) (2 * e.offset.val)
    (raiseSignal e.role value g,
      reportStaleOf e.role false (putRecord c (acceptedRecord e r (frameSeq frame) value) s))

/-- The taps of one frame in list order (R14). -/
def tapAll (frame : List Byte) : List Channel → Signals → State → Signals × State
  | [], g, s => (g, s)
  | c :: rest, g, s =>
    let tapped := tap frame c g s
    tapAll frame rest tapped.1 tapped.2

/-- The signals of one frame are given after its taps: anchor first, then lock position (R61). -/
def giveSignals (g : Signals) (s : State) : State :=
  let anchored := if g.anchor then anchorSignal s else s
  match g.lockPosition with
  | none => anchored
  | some v => lockSignal v anchored

/-- The taps of a frame and then its signals (R61). That they come before the frame is forwarded or released is stated
for SHAPE (R112) and the model's choice for TAP_FORWARD and TAP_ABSORB (notes/assumptions/28.md). -/
def tapFrame (frame : List Byte) (taps : List Channel) (s : State) : State :=
  let tapped := tapAll frame taps noSignals s
  giveSignals tapped.1 tapped.2

/-- Effect of FRESHNESS_TIMER_EXPIRY: the stale flag is set and the role's stale condition reported active (R58). -/
def freshnessTimerExpiry (c : Channel) (s : State) : State :=
  let e := look s.channels.table c
  let r := look s.channels.records c
  if e.enabled = true ∧ timerDue r.timer then
    reportStaleOf e.role true (putRecord c { r with timer := none, stale := true } s)
  else s

/-- FRESHNESS_TIMER_EXPIRY (R58). -/
def execFreshnessTimerExpiry (c : Channel) (s : State) : Host.Outcome State Fault Refusal :=
  unlessReset (freshnessTimerExpiry c) s

end Sys2Proof.Machine
end

