-- ==== Sys2Proof/Machine/SteerShaper.lean ====
section
/-! DEFINITION. The steer shaper: bypass, the shaped value, rewriting and forwarding (chapter 6). -/

namespace Sys2Proof.Machine

/-- The channel whose word is shaped, where the frame is shaped and not bypassed (R113): the envelope is valid and
the first listed channel is enabled, holds RIDER_STEER and finds its word in the payload. An entry
with no listed channel does not come about (R17, notes/assumptions/24.md). -/
def shapedChannel (frame : List Byte) (taps : List Channel) (s : State) : Option Channel :=
  match taps with
  | [] => none
  | c :: _ =>
    let e := look s.channels.table c
    if s.envelope.valid && e.enabled && e.role == .riderSteer && !wordBeyond e.offset (frameLength frame) then some c
    else none

/-- The row in use: the selected row, or row 0 (R115). -/
def rowInUse (s : State) : EnvelopeRow := look s.envelope.rows (s.lean.row.getD 0)

/-- The limit L (R115). -/
def steerLimit (s : State) : Int :=
  let l : Int := ((rowInUse s).steerLimit.toNat : Int)
  if s.lean.mode = .recover then min l (recoverSteer s : Int) else l

/-- The value after the step (R117, step 1). -/
def steppedSteer (last : Option Int) (s1 step : Int) : Int :=
  match last with
  | none => s1
  | some p => moveToward p s1 step

/-- The shaped value s2 from the value after the step (R117, steps 2 and 3). -/
def settledSteer (stepped limit deadband : Int) : Int :=
  let clamped := clampTo stepped limit
  if magnitude clamped < deadband then 0 else clamped

/-- The clamped demand s1 (R116). -/
def clampedDemand (s0 : Int) (s : State) : Int := clampTo s0 (steerLimit s)

/-- The shaped value s2 of a raw demand (R116, R117). -/
def shapedValue (s0 : Int) (s : State) : Int :=
  settledSteer (steppedSteer s.shaper.last (clampedDemand s0 s) ((rowInUse s).steerStep.toNat : Int)) (steerLimit s)
    ((rowInUse s).steerDeadband.toNat : Int)

/-- The shaper's flag, value and counters after a shaped frame (R116 to R118). -/
def shapedShaper (s0 : Int) (s : State) : Shaper :=
  let s1 := clampedDemand s0 s
  let x := s.shaper
  { x with
    last := some (shapedValue s0 s), clamped := s1 != s0, shapedCount := bump x.shapedCount,
    clampedCount := if s1 = s0 then x.clampedCount else bump x.clampedCount,
    limitedCount :=
      if steppedSteer x.last s1 ((rowInUse s).steerStep.toNat : Int) = s1 then x.limitedCount
      else bump x.limitedCount }

/-- A bypassed frame: counted, the clamped flag cleared, DEMAND_CLAMPED reported inactive (R113). That `shape` takes this
report before it forwards the frame is the model's choice (notes/assumptions/30.md). -/
def bypassFrame (s : State) : State :=
  report .demandClamped false
    { s with shaper := { s.shaper with clamped := false, bypassedCount := bump s.shaper.bypassedCount } }

/-- A tracked frame is handed to the STEER slot when TRACK_STEER is 1 (R119). -/
def trackSteerFrame (t : Token) (seq : Byte) (s : State) : State :=
  if trackSteer s = 1 then handOver .steer t seq s else s

/-- A shaped frame: value and flag, DEMAND_CLAMPED, the rewrite, and the hand-over (R114 to R119). -/
def shapeFrame (t : Token) (frame : List Byte) (offset : Fin 16) (s : State) : State :=
  let s0 := (wordAt (framePayload frame) (2 * offset.val)).toInt
  let s2 := shapedValue s0 s
  let shaper := shapedShaper s0 s
  let reported := report .demandClamped shaper.clamped { s with shaper := shaper }
  trackSteerFrame t (frameSeq frame) (setBytes t (rewriteWord frame (2 * offset.val) (signedWord s2)) reported)

/-- The steer shaper takes a frame from port `p` in buffer `t`: taps, signals, bypass or shaping, forwarding (R112,
R119). For a bypassed frame the report of DEMAND_CLAMPED comes before the forwarding by the model's choice
(notes/assumptions/30.md). -/
def shape (p : Port) (t : Token) (taps : List Channel) (urgent : Bool) (s : State) : State :=
  let frame := (buffer t s).bytes
  let tapped := tapFrame frame taps s
  forward p urgent t
    (match shapedChannel frame taps tapped with
    | none => bypassFrame tapped
    | some c => shapeFrame t frame (look tapped.channels.table c).offset tapped)

end Sys2Proof.Machine
end

