-- ==== Sys2Proof/Machine/Classify.lean ====
section
/-! DEFINITION. The stream classifier: matching and the one disposition of a frame (chapter 1). -/

namespace Sys2Proof.Machine

/-- The kind set names the kind: it cannot name MGMT_REQ, MGMT_REPLY or an unknown kind (section 1.1). -/
def kindIn (k : FrameKind) (ks : KindSet) : Bool :=
  match k with
  | .sample => ks.sample
  | .demand => ks.demand
  | .command => ks.command
  | .ack => ks.ack
  | .status => ks.status
  | .mgmtReq | .mgmtReply | .unknown => false

/-- The ports field allows the arrival port (R4). -/
def portIn (p : Port) (ps : PortSet) : Bool :=
  match ps, p with
  | .both, _ => true
  | .cockpit, .cockpit => true
  | .chassis, .chassis => true
  | .cockpit, .chassis => false
  | .chassis, .cockpit => false

/-- The stream agrees with base at every bit that is clear in mask (R4). -/
def streamMatches (e : StreamEntry) (stream : BitVec 12) : Bool :=
  (stream ^^^ e.base) &&& ~~~e.mask == 0

/-- An entry matches a frame (R4). -/
def entryMatches (e : StreamEntry) (p : Port) (frame : List Byte) : Bool :=
  e.enabled && portIn p e.ports && kindIn (frameKind frame) e.kinds && streamMatches e (frameStream frame)

/-- The first entry that matches (R5). -/
def matchedIndex (table : Vector StreamEntry 24) (p : Port) (frame : List Byte) : Option (Fin 24) :=
  (List.finRange 24).find? fun i => entryMatches (look table i) p frame

/-- The frame is a management request to self (R3). -/
def requestToSelf (frame : List Byte) (s : State) : Bool :=
  frameKind frame == .mgmtReq && frameStream frame == managementStream s.node

/-- The match counter of an index is incremented (R5). -/
def countMatch (i : Fin 24) (s : State) : State :=
  { s with
    classifier := { s.classifier with matched := put s.classifier.matched i (bump (look s.classifier.matched i)) } }

/-- The default action (R6): code 1 is FORWARD, code 6 is DROP (section 11.4). -/
def defaultDisposition (p : Port) (t : Token) (s : State) : State :=
  let counted := { s with classifier := { s.classifier with defaulted := bump s.classifier.defaulted } }
  if defaultAction s = 6 then releaseBuffer t counted else forward p false t counted

/-- The action of a matched entry (R8 to R13). The taps of TAP_FORWARD and TAP_ABSORB come first, and the model's choice
is that their signals do as well (notes/assumptions/28.md). -/
def perform (e : StreamEntry) (p : Port) (t : Token) (s : State) : State :=
  let frame := (buffer t s).bytes
  match e.action with
  | .forward => forward p e.urgent t s
  | .tapForward => forward p e.urgent t (tapFrame frame e.taps s)
  | .tapAbsorb => releaseBuffer t (tapFrame frame e.taps s)
  | .shape => shape p t e.taps e.urgent s
  | .ackTrack => releaseBuffer t (deliverAck e.drive (framePayload frame) s)
  | .drop => releaseBuffer t s

/-- The classification of the frame in buffer `t` from port `p`: exactly one disposition (R2, R3, R19, R5, R6). -/
def classify (p : Port) (t : Token) (s : State) : State :=
  let frame := (buffer t s).bytes
  if requestToSelf frame s then takeRequest t p s
  else if s.classifier.openMode then forward p false t s
  else
    match matchedIndex s.classifier.table p frame with
    | some i => perform (look s.classifier.table i) p t (countMatch i s)
    | none => defaultDisposition p t s

end Sys2Proof.Machine
end

