-- ==== Sys2Proof/Machine/Receivers.lean ====
section
/-! DEFINITION. The receivers: one frame at a time, port counters and quiet timer (sections 2.1 to 2.3). -/

namespace Sys2Proof.Machine

/-- A receiver with another phase. -/
def setPhase (p : Port) (ph : RxPhase) (s : State) : State :=
  setRx p { s.rx.get p with phase := ph } s

/-- A frame cut off in HEADER or BODY, or failing its check, is counted (R26, R27). -/
def countCheckError (p : Port) (s : State) : State :=
  setRx p { s.rx.get p with checkError := bump (s.rx.get p).checkError } s

/-- What a line fault does to the frame in progress; the receiver is then IDLE (R27). -/
def cutFrame (p : Port) (s : State) : State :=
  match (s.rx.get p).phase with
  | .idle => s
  | .header => setPhase p .idle (countCheckError p s)
  | .body t _ => setPhase p .idle (countCheckError p (releaseBuffer t s))
  | .discarding _ => setPhase p .idle s

/-- Effect of FRAME_START: a frame in progress is cut off first, and the new frame begins in HEADER (R23). -/
def frameStart (p : Port) (s : State) : State := setPhase p .header (cutFrame p s)

/-- FRAME_START (R23). -/
def execFrameStart (p : Port) (s : State) : Host.Outcome State Fault Refusal := unlessReset (frameStart p) s

/-- Effect of LINE_FAULT (R27). -/
def lineFault (p : Port) (s : State) : State := cutFrame p s

/-- LINE_FAULT (R27). -/
def execLineFault (p : Port) (s : State) : Host.Outcome State Fault Refusal := unlessReset (lineFault p) s

/-- A long frame at its header: counted, and the rest passed over (R24). -/
def longFrame (p : Port) (length : Nat) (s : State) : State :=
  setRx p
    { s.rx.get p with phase := .discarding (length + 2), long := bump (s.rx.get p).long } s

/-- A frame dropped for want of a buffer: counted, and the rest passed over (R25). -/
def overrunFrame (p : Port) (length : Nat) (s : State) : State :=
  setRx p
    { s.rx.get p with phase := .discarding (length + 2), overrun := bump (s.rx.get p).overrun } s

/-- The buffer that a claim under the arrival rule takes: the free count before the claim must exceed ORIGIN_RESERVE
in force (R32). -/
def arrivalClaim (s : State) : Option Token :=
  if originReserve s < freeCount s then lowestFree s else none

/-- Effect of HEADER_COMPLETE, in HEADER (R24, R25). Bytes outside a frame are ignored (R23). -/
def headerComplete (p : Port) (b0 b1 b2 b3 : Byte) (s : State) : State :=
  match (s.rx.get p).phase with
  | .header =>
    if Config.longestPayload < b3.toNat then longFrame p b3.toNat s
    else
      match arrivalClaim s with
      | some t => setPhase p (.body t (b3.toNat + 2)) (receiveInto t p [b0, b1, b2, b3] s)
      | none => overrunFrame p b3.toNat s
  | .idle | .body _ _ | .discarding _ => s

/-- HEADER_COMPLETE (R25). -/
def execHeaderComplete (p : Port) (b0 b1 b2 b3 : Byte) (s : State) : Host.Outcome State Fault Refusal :=
  unlessReset (headerComplete p b0 b1 b2 b3) s

/-- Effect of DISCARD_END: the last byte of a discarded frame has come in (R24). -/
def discardEnd (p : Port) (s : State) : State :=
  match (s.rx.get p).phase with
  | .discarding _ => setPhase p .idle s
  | .idle | .header | .body _ _ => s

/-- DISCARD_END (R24). -/
def execDiscardEnd (p : Port) (s : State) : Host.Outcome State Fault Refusal := unlessReset (discardEnd p) s

/-- A frame whose check differs: released and counted (R26). -/
def badFrame (p : Port) (t : Token) (s : State) : State :=
  setPhase p .idle (countCheckError p (releaseBuffer t s))

/-- A good frame at the receiver: counted, the quiet timer reloaded, the buffer HELD, the receiver IDLE (R26,
R29). -/
def countGood (p : Port) (t : Token) (s : State) : State :=
  setBufferState t .held
    (setRx p
      { s.rx.get p with
        phase := .idle, good := bump (s.rx.get p).good, quiet := startUnlessZero (quietTime s) } s)

/-- A good frame: at the receiver, then heard at the fault monitor, then classified (R26, R29, R2). -/
def goodFrame (p : Port) (t : Token) (s : State) : State :=
  classify p t (reportPortHeard p (countGood p t s))

/-- Effect of FRAME_END, in BODY: the bytes that came in are stored, and the last check byte ends the frame (R26).
Bytes beyond the frame's end are outside a frame and ignored (R23); where the bytes do not reach the end the frame
stays in progress (notes/assumptions/10.md). -/
def frameEnd (p : Port) (body : List Byte) (s : State) : State :=
  match (s.rx.get p).phase with
  | .body t remaining =>
    let stored := setBytes t ((buffer t s).bytes ++ body.take remaining) s
    if body.length < remaining then setPhase p (.body t (remaining - body.length)) stored
    else if checkAgrees (buffer t stored).bytes then goodFrame p t stored
    else badFrame p t stored
  | .idle | .header | .discarding _ => s

/-- FRAME_END (R26). -/
def execFrameEnd (p : Port) (body : List Byte) (s : State) : Host.Outcome State Fault Refusal :=
  unlessReset (frameEnd p body) s

/-- Effect of QUIET_TIMER_EXPIRY: the port is reported quiet and the timer stays stopped (R29). -/
def quietTimerExpiry (p : Port) (s : State) : State :=
  if timerDue (s.rx.get p).quiet then reportPortQuiet p (setRx p { s.rx.get p with quiet := none } s) else s

/-- QUIET_TIMER_EXPIRY (R29). -/
def execQuietTimerExpiry (p : Port) (s : State) : Host.Outcome State Fault Refusal :=
  unlessReset (quietTimerExpiry p) s

end Sys2Proof.Machine
end

