-- ==== Sys2Proof/Machine/Transmit.lean ====
section
/-! DEFINITION. The completion of a transmission (R45). -/

namespace Sys2Proof.Machine

/-- The sent buffer: RETAINED with its slot told, or released (R45, R130). -/
def settleSent (t : Token) (s : State) : State :=
  match (buffer t s).retainer with
  | some d => tellSlot d t (setBufferState t .retained s)
  | none => releaseBuffer t s

/-- The fault monitor takes the completion of the status frame in hand: it becomes absent, and the next one is
originated when status-wanted is set (R45, R171). -/
def statusSent (p : Port) (t : Token) (s : State) : State :=
  if p = .cockpit ∧ s.monitor.statusInHand = some t then
    let absent := { s with monitor := { s.monitor with statusInHand := none } }
    if s.monitor.statusWanted then originateStatus absent else absent
  else s

/-- The transmitter is idle and makes a pick (R45, R40). -/
def idleAndPick (p : Port) (s : State) : State :=
  pick p (setTx p { s.tx.get p with sending := none } s)

/-- Effect of TRANSMISSION_COMPLETE: sent counter, the buffer, the status frame, then the pick (R45). With no frame
in transmission nothing changes. -/
def transmissionComplete (p : Port) (s : State) : State :=
  match (s.tx.get p).sending with
  | none => s
  | some t =>
    setTx p { s.tx.get p with sent := bump (s.tx.get p).sent } s |> settleSent t |> statusSent p t |> idleAndPick p

/-- TRANSMISSION_COMPLETE (R45). -/
def execTransmissionComplete (p : Port) (s : State) : Host.Outcome State Fault Refusal :=
  unlessReset (transmissionComplete p) s

end Sys2Proof.Machine
end

