-- ==== Sys2Proof/Machine/Resets.lean ====
section
/-! DEFINITION. The beginnings and ends of the three kinds of reset (section 9.9, R176, R177). -/

namespace Sys2Proof.Machine

/-- A reset of this kind is held or is held no longer. -/
def setHeld (k : ResetKind) (held : Bool) (r : ResetControl) : ResetControl :=
  match k with
  | .power => { r with power := held }
  | .pin => { r with pin := held }
  | .management => { r with management := held }

/-- Every block at its reset value, with these reset controls and this node number; the waiting commands, the clock
and the count of free values are the model's own and stay. -/
def resetBlocks (resets : ResetControl) (node : BitVec 6) (s : State) : State :=
  State.resetValues resets node s.pending s.now s.freeIndex

/-- A reset of this kind begins: every block takes its reset values, ALERT is asserted, and the kind is the one
begun last (R177, R169). The cause and the node number hold until the end of the reset. A reset of a kind that is
held already does not begin again. -/
def beginReset (k : ResetKind) (s : State) : State :=
  if resetHeld k s.resets then s
  else
    let r := resetBlocks { setHeld k true s.resets with lastBegun := k } s.node s
    { r with monitor := { r.monitor with alert := true } }

/-- The supply watch judges the supply at the end of a reset (R176). -/
def judgeSupply (low : Bool) (s : State) : State :=
  if low then report .supplyLow true { s with monitor := { s.monitor with supplyLow := true } } else s

/-- The end of the last reset held: reset values, cause, node number (R177), the supply judgement (R176), and the
start-up status frame (R173). -/
def leaveReset (resets : ResetControl) (straps : BitVec 6) (low : Bool) (s : State) : State :=
  originateStatus (judgeSupply low (resetBlocks { resets with cause := resets.lastBegun } straps s))

/-- A reset of this kind ends: the part leaves reset when no other is held (R177). -/
def endReset (k : ResetKind) (straps : BitVec 6) (low : Bool) (s : State) : State :=
  if resetHeld k s.resets then
    let ended := { s with resets := setHeld k false s.resets }
    if inReset ended then ended else leaveReset ended.resets straps low ended
  else s

/-- POWER_ON_RESET (R177). -/
def execPowerOnReset (s : State) : Host.Outcome State Fault Refusal := .next (beginReset .power s)

/-- POWER_ON_RESET_END (R177). -/
def execPowerOnResetEnd (straps : BitVec 6) (low : Bool) (s : State) : Host.Outcome State Fault Refusal :=
  .next (endReset .power straps low s)

/-- PIN_RESET (R177). -/
def execPinReset (s : State) : Host.Outcome State Fault Refusal := .next (beginReset .pin s)

/-- PIN_RESET_END (R177). -/
def execPinResetEnd (straps : BitVec 6) (low : Bool) (s : State) : Host.Outcome State Fault Refusal :=
  .next (endReset .pin straps low s)

/-- MANAGEMENT_RESET_END (R177). -/
def execManagementResetEnd (straps : BitVec 6) (low : Bool) (s : State) : Host.Outcome State Fault Refusal :=
  .next (endReset .management straps low s)

end Sys2Proof.Machine
end

