-- ==== Sys2Proof/Machine/Management.lean ====
section
/-! DEFINITION. The requests: each command completes the request in hand (sections 10.2 to 10.7). -/

namespace Sys2Proof.Machine

/-! ## Malformed requests and reading -/

/-- Effect of MALFORMED_REQUEST: a malformed request in hand is answered BAD_REQUEST (R183, R200). -/
def malformedRequest (s : State) : State :=
  match s.agent.inHand with
  | none => s
  | some rq =>
    if requestMalformed (framePayload (buffer rq.request s).bytes) then answer .badRequest [] s else s

/-- MALFORMED_REQUEST (R183). -/
def execMalformedRequest (s : State) : Host.Outcome State Fault Refusal := unlessReset malformedRequest s

/-- READ_STATE executed (R184, R174). -/
def readState (_payload : List Byte) (s : State) : State := answer .done (stateRecord s) s

/-- READ_STATE (R184). -/
def execReadState (s : State) : Host.Outcome State Fault Refusal :=
  unlessReset (completeRequest .readState readState) s

/-- The bytes of the entry in force at an index, with the channel's record behind a channel entry: none where the
index lies outside the table (R184, R64, R82). -/
def entryData (t : TableName) (index : Byte) (s : State) : Option (List Byte) :=
  match t with
  | .stream => (readIndex 24 index).map fun i => streamBytes (look s.classifier.table i)
  | .channel =>
    (readIndex 16 index).map fun i => channelBytes (look s.channels.table i) ++ recordBytes (look s.channels.records i)
  | .envelope => (readIndex 12 index).map fun i => rowBytes (look s.envelope.rows i)
  | .param => (readIndex 44 index).map fun i => wordBytes (look s.agent.params i)

/-- READ_ENTRY executed (R184, section 11.3). -/
def readEntry (payload : List Byte) (s : State) : State :=
  match readTable (byteAt payload 2) with
  | none => answer .badTable [] s
  | some t =>
    match entryData t (byteAt payload 3) s with
    | none => answer .badIndex [] s
    | some data => answer .done ([byteAt payload 2, byteAt payload 3] ++ data) s

/-- READ_ENTRY (R184). -/
def execReadEntry (s : State) : Host.Outcome State Fault Refusal :=
  unlessReset (completeRequest .readEntry readEntry) s

/-! ## The stage (R185, R186) -/

/-- The stage replaced. -/
def setStage (stage : Stage) (s : State) : State := { s with agent := { s.agent with stage := stage } }

/-- The stream entries staged, none where the stage holds another table. -/
def stagedStreams : Stage → Option (List (Fin 24 × StreamEntry))
  | .empty => some []
  | .stream es => some es
  | .channel _ | .envelope _ | .param _ => none

/-- The channel entries staged, none where the stage holds another table. -/
def stagedChannels : Stage → Option (List (Fin 16 × ChannelEntry))
  | .empty => some []
  | .channel es => some es
  | .stream _ | .envelope _ | .param _ => none

/-- The envelope rows staged, none where the stage holds another table. -/
def stagedRows : Stage → Option (List (Fin 12 × EnvelopeRow))
  | .empty => some []
  | .envelope es => some es
  | .stream _ | .channel _ | .param _ => none

/-- The parameters staged, none where the stage holds another table. -/
def stagedParams : Stage → Option (List (Fin 44 × Word))
  | .empty => some []
  | .param es => some es
  | .stream _ | .channel _ | .envelope _ => none

/-- An entry put among entries sorted by index, in place of one with the same index (R185). -/
def stagePut {α : Type} {n : Nat} : List (Fin n × α) → Fin n → α → List (Fin n × α)
  | [], i, x => [(i, x)]
  | e :: rest, i, x =>
    if i = e.1 then (i, x) :: rest
    else if i < e.1 then (i, x) :: e :: rest
    else e :: stagePut rest i x

/-- The stage holds this index. -/
def stageHolds {α : Type} {n : Nat} (es : List (Fin n × α)) (i : Fin n) : Bool := es.any fun e => e.1 == i

/-- The entries of one table with one more staged, or the result that refuses it, in the order of R186 from the
index on: BAD_INDEX, BAD_VALUE, STAGE_CONFLICT, replacement, STAGE_FULL, addition. -/
def stageOne {α : Type} {n : Nat} (own : Option (List (Fin n × α))) (index : Option (Fin n))
    (read : Fin n → Option α) : Except Result (List (Fin n × α)) :=
  match index with
  | none => .error .badIndex
  | some i =>
    match read i with
    | none => .error .badValue
    | some x =>
      match own with
      | none => .error .stageConflict
      | some es =>
        if stageHolds es i then .ok (stagePut es i x)
        else if Config.stageRoom ≤ es.length then .error .stageFull
        else .ok (stagePut es i x)

/-- The stage after a STAGE_ENTRY of this table, index byte and content, or the result that refuses it (R186). -/
def staged (t : TableName) (index : Byte) (content : List Byte) (stage : Stage) : Except Result Stage :=
  match t with
  | .stream => (stageOne (stagedStreams stage) (readIndex 24 index) fun _ => readStreamEntry content).map .stream
  | .channel => (stageOne (stagedChannels stage) (readIndex 16 index) fun _ => readChannelEntry content).map .channel
  | .envelope => (stageOne (stagedRows stage) (readIndex 12 index) fun _ => readEnvelopeRow content).map .envelope
  | .param => (stageOne (stagedParams stage) (readIndex 44 index) fun i => readParam i content).map .param

/-- STAGE_ENTRY executed, in the order of R186. -/
def stageEntry (payload : List Byte) (s : State) : State :=
  if s.agent.pendingCommit.isSome then answer .busy [] s
  else
    match readTable (byteAt payload 2) with
    | none => answer .badTable [] s
    | some t =>
      match staged t (byteAt payload 3) (payload.drop 4) s.agent.stage with
      | .error r => answer r [] s
      | .ok stage => answer .done [] (setStage stage s)

/-- STAGE_ENTRY (R186). -/
def execStageEntry (s : State) : Host.Outcome State Fault Refusal :=
  unlessReset (completeRequest .stageEntry stageEntry) s

/-- DISCARD_STAGE executed (R186). -/
def discardStage (_payload : List Byte) (s : State) : State :=
  if s.agent.pendingCommit.isSome then answer .busy [] s else answer .done [] (setStage .empty s)

/-- DISCARD_STAGE (R186). -/
def execDiscardStage (s : State) : Host.Outcome State Fault Refusal :=
  unlessReset (completeRequest .discardStage discardStage) s

/-! ## COMMIT: the judgements (R187 to R189) -/

/-- The 16-bit sum of bytes, modulo 65 536 (R188). -/
def byteSum (bs : List Byte) : Word := bs.foldl (fun w b => w + b.setWidth 16) 0

/-- The sum over the canonical encodings of a whole table in index order (R188). -/
def tableSum {α : Type} {n : Nat} (encoded : α → List Byte) (v : Vector α n) : Word :=
  byteSum ((List.finRange n).flatMap fun i => encoded (look v i))

/-- The kind set is exactly {DEMAND}. -/
def onlyDemand (k : KindSet) : Bool :=
  k == { sample := false, demand := true, command := false, ack := false, status := false }

/-- The kind set is exactly {ACK}. -/
def onlyAck (k : KindSet) : Bool :=
  k == { sample := false, demand := false, command := false, ack := true, status := false }

/-- A stream entry meets the condition of its action (R17). -/
def streamEntryValid (e : StreamEntry) : Bool :=
  match e.action with
  | .forward | .drop => e.taps.isEmpty
  | .tapForward | .tapAbsorb => !e.taps.isEmpty
  | .shape => !e.taps.isEmpty && onlyDemand e.kinds
  | .ackTrack => onlyAck e.kinds && e.taps.isEmpty

/-- Every entry of a stream table meets the condition of its action (R17, R189). -/
def streamTableValid (v : Vector StreamEntry 24) : Bool :=
  (List.finRange 24).all fun i => streamEntryValid (look v i)

/-- A role that at most one enabled channel may hold (R49). -/
def soleRole (r : Role) : Bool := r != .unbound && r != .aux

/-- Two channels do not hold the same role against R49. -/
def channelsAgree (a b : ChannelEntry) : Bool :=
  !(a.enabled && b.enabled && a.role == b.role && soleRole a.role)

/-- No two enabled channels of a channel table hold the same role other than UNBOUND or AUX (R49, R67). -/
def channelTableValid (v : Vector ChannelEntry 16) : Bool :=
  (List.finRange 16).all fun i =>
    (List.finRange 16).all fun j => i == j || channelsAgree (look v i) (look v j)

/-- ENGAGE_SPEED is less than RELEASE_SPEED (R189). -/
def paramTableValid (v : Vector Word 44) : Bool := (look v 15).toNat < (look v 14).toNat

/-- Control is in force or being left: the modes that refuse commits (R189). -/
def controlMode : Mode → Bool
  | .active | .recover => true
  | .bridge | .standby => false

/-- The stage touches a channel that holds or would hold a required role (R68). -/
def touchesRequired (es : List (Fin 16 × ChannelEntry)) (s : State) : Bool :=
  es.any fun e => isRequired (look s.channels.table e.1).role || isRequired e.2.role

/-! ## COMMIT: the applications (R190, R191) -/

/-- The stage is emptied and the commit counted at an application (R190). -/
def closeCommit (s : State) : State :=
  setAgentCounters (fun c => { c with commitsApplied := bump c.commitsApplied }) (setStage .empty s)

/-- Open mode ends, and the lean law is told: BRIDGE becomes STANDBY (R21, R86). -/
def endOpenMode (s : State) : State :=
  if s.classifier.openMode then
    let ended := { s with classifier := { s.classifier with openMode := false } }
    match s.lean.mode with
    | .bridge => { ended with lean := { ended.lean with mode := .standby } }
    | .standby | .active | .recover => ended
  else s

/-- The application of a STREAM commit (R18, R190, R21). -/
def applyStream (es : List (Fin 24 × StreamEntry)) (s : State) : State :=
  let applied := { s with classifier := { s.classifier with table := overlay s.classifier.table es } }
  let closed := closeCommit applied
  if stageHolds es 0 then endOpenMode closed else closed

/-- A channel's record after a rebinding; its counters stay (R69, R65). -/
def reboundRecord (e : ChannelEntry) (r : ChannelRecord) : ChannelRecord :=
  { r with
    value := none, lastSeq := none, stale := false, timer := if e.enabled then some e.freshness.toNat else none }

/-- The records after a CHANNEL commit: an index whose new entry differs from its old one is rebound (R69). -/
def rebind (old new : Vector ChannelEntry 16) (records : Vector ChannelRecord 16) : Vector ChannelRecord 16 :=
  Vector.ofFn fun c =>
    if look new c = look old c then look records c else reboundRecord (look new c) (look records c)

/-- The stale condition of a role stays active over a CHANNEL commit: held before and after by the same enabled
channel, which is not rebound and is stale (R70). -/
def staleKept (old : Vector ChannelEntry 16) (r : Role) (s : State) : Bool :=
  match holderOf old r, holderOf s.channels.table r with
  | some a, some b => a == b && look old a == look s.channels.table a && (look s.channels.records a).stale
  | _, _ => false

/-- The report of one role at the application of a CHANNEL commit (R70). -/
def reportRole (old : Vector ChannelEntry 16) (r : Role) (s : State) : State :=
  if staleKept old r s then s else reportStaleOf r false s

/-- The stale reports at the application of a CHANNEL commit, in fault index order (R70, notes/assumptions/22.md). -/
def reportRoles (old : Vector ChannelEntry 16) (s : State) : State :=
  requiredRoles.foldl (fun s r => reportRole old r s) s

/-- The application of a CHANNEL commit (R69, R70, R190). -/
def applyChannel (es : List (Fin 16 × ChannelEntry)) (s : State) : State :=
  let old := s.channels.table
  let new := overlay old es
  let applied := { s with channels := { table := new, records := rebind old new s.channels.records } }
  reportRoles old (closeCommit applied)

/-- A slot's miss count set to 0 (R137). -/
def forgiveMisses (d : Drive) (s : State) : State := setSlot d { s.drives.get d with misses := 0 } s

/-- A port's quiet timer restarted with QUIET_TIME in force (R30). -/
def restartQuiet (p : Port) (s : State) : State :=
  setRx p { s.rx.get p with quiet := startUnlessZero (quietTime s) } s

/-- A record of the fault table differs in its active or its latched flag. -/
def flagsDiffer (a b : FaultRecord) : Bool := a.active != b.active || a.latched != b.latched

/-- A flag of a kind in STATUS_MASK in force has changed since these fault records (R170). -/
def masksChange (old : Vector FaultRecord 16) (s : State) : Bool :=
  (List.finRange 16).any fun i =>
    (statusMask s).getLsbD i.val && flagsDiffer (look old i) (look s.monitor.faults i)

/-- Fault records changed at once: ALERT is judged, and status-wanted set when a flag of a kind in STATUS_MASK has
changed (R168, R170, notes/assumptions/23.md). -/
def settleFaults (old : Vector FaultRecord 16) (s : State) : State :=
  let judged := judgeAlert s
  if masksChange old judged then wantStatus judged else judged

/-- The kinds of severity 0 return to their reset records, and with LINK_QUIET its qualifier (R164). -/
def resetMutedKinds (s : State) : State :=
  { s with
    monitor :=
      { s.monitor with
        faults := Vector.ofFn fun i =>
          if severityAt i s = 0 then FaultRecord.atReset else look s.monitor.faults i
        quietPorts :=
          if severity .linkQuiet s = 0 then { cockpit := false, chassis := false } else s.monitor.quietPorts } }

/-- The owners' part of a PARAM commit: miss counts, quiet timers, status interval timer (R193). -/
def restartOwners (s : State) : State :=
  let timed := forgiveMisses .tilt s |> forgiveMisses .steer |> restartQuiet .cockpit |> restartQuiet .chassis
  { timed with monitor := { timed.monitor with interval := startUnlessZero (statusInterval timed) } }

/-- The application of a PARAM commit (R193, R164, R190). -/
def applyParam (es : List (Fin 44 × Word)) (s : State) : State :=
  let applied := { s with agent := { s.agent with params := overlay s.agent.params es } }
  settleFaults s.monitor.faults (resetMutedKinds (restartOwners (closeCommit applied)))

/-- An ENVELOPE commit becomes pending: the reply buffer, port, tag and sequence are recorded, the request buffer is
released and the next request begun (R191). -/
def holdCommit (s : State) : State :=
  match s.agent.inHand with
  | none => s
  | some rq =>
    let frame := (buffer rq.request s).bytes
    let record : CommitPending :=
      { reply := rq.reply, port := rq.port, tag := tagByte (framePayload frame), seq := frameSeq frame }
    let released := releaseBuffer rq.request s
    nextRequest { released with agent := { released.agent with pendingCommit := some record } }

/-- An ENVELOPE commit that passes its checks: applied at once and answered, or pending on the cycle in flight
(R191, R75). -/
def finishEnvelope (es : List (Fin 12 × EnvelopeRow)) (s : State) : State :=
  if s.lean.cycle = none then answer .done [] (applyEnvelope es s) else holdCommit s

/-- Steps 6 to 9 of a COMMIT (R187): check value, validity, mode, application. -/
def judgeCommit (sum check : Word) (valid refused : Bool) (finish : State → State) (s : State) : State :=
  if sum != check then
    answer .badCheck []
      (setAgentCounters (fun c => { c with badChecks := bump c.badChecks }) (setStage .empty s))
  else if !valid then answer .badValue [] (setStage .empty s)
  else if refused then answer .refusedMode [] s
  else finish s

/-- A COMMIT of the stage of its own table (R187 steps 6 to 9). -/
def commitStage (stage : Stage) (check : Word) (s : State) : State :=
  match stage with
  | .empty => answer .stageEmpty [] s
  | .stream es =>
    let table := overlay s.classifier.table es
    judgeCommit (tableSum streamBytes table) check (streamTableValid table) false
      (fun s => answer .done [] (applyStream es s)) s
  | .channel es =>
    let table := overlay s.channels.table es
    judgeCommit (tableSum channelBytes table) check (channelTableValid table)
      (controlMode s.lean.mode && touchesRequired es s) (fun s => answer .done [] (applyChannel es s)) s
  | .envelope es =>
    let table := overlay s.envelope.rows es
    judgeCommit (tableSum rowBytes table) check (envelopeValid table) false (finishEnvelope es) s
  | .param es =>
    let table := overlay s.agent.params es
    judgeCommit (tableSum wordBytes table) check (paramTableValid table) (controlMode s.lean.mode)
      (fun s => answer .done [] (applyParam es s)) s

/-- COMMIT executed, in the order of R187. -/
def commit (payload : List Byte) (s : State) : State :=
  if s.agent.pendingCommit.isSome then answer .busy [] s
  else
    match readTable (byteAt payload 2) with
    | none => answer .badTable [] s
    | some t =>
      if s.agent.stage = .empty then answer .stageEmpty [] s
      else if stageCode s.agent.stage = tableCode t then commitStage s.agent.stage (wordAt payload 3) s
      else answer .stageConflict [] s

/-- COMMIT (R187). -/
def execCommit (s : State) : Host.Outcome State Fault Refusal := unlessReset (completeRequest .commit commit) s

/-! ## Counters (R196, R197) -/

/-- The six counters of a port (R28). -/
def portCounters (p : Port) (s : State) : List Counter :=
  [(s.rx.get p).good, (s.rx.get p).checkError, (s.rx.get p).long, (s.rx.get p).overrun,
    (s.tx.get p).sent, (s.tx.get p).aged]

/-- The five counters of a slot (R141). -/
def slotCounters (d : Drive) (s : State) : List Counter :=
  [(s.drives.get d).sentCount, (s.drives.get d).retryCount, (s.drives.get d).missCount, (s.drives.get d).lateCount,
    (s.drives.get d).rejectCount]

/-- The counters of a group in group order (section 11.5). -/
def groupCounters (g : CounterGroup) (s : State) : List Counter :=
  match g with
  | .cockpitPort => portCounters .cockpit s
  | .chassisPort => portCounters .chassis s
  | .stream =>
    (List.finRange 24).map (look s.classifier.matched) ++ [s.classifier.defaulted, s.classifier.tapIdle]
  | .channel =>
    (List.finRange 16).flatMap fun c =>
      let r := look s.channels.records c
      [r.accepted, r.duplicate, r.gap, r.short]
  | .lean =>
    let c := s.lean.counters
    [c.anchorCycles, c.pendingCycles, c.blindCycles, c.overlaps, c.discardedAnchors, c.originated, c.lost,
      c.withoutRow, c.excursionCycles, c.deferred]
  | .drive =>
    slotCounters .tilt s ++ slotCounters .steer s
      ++ [s.shaper.shapedCount, s.shaper.bypassedCount, s.shaper.clampedCount, s.shaper.limitedCount]
  | .mgmt =>
    let c := s.agent.counters
    [c.received, c.dropped, c.repliesDone, c.repliesRefused, c.commitsApplied, c.badChecks]
      ++ (List.finRange 16).map fun i => (look s.monitor.faults i).occurrences.setWidth 16

/-- The data of a READ_COUNTERS reply: group, first position, number n, then n counters, at most 12 (R196). -/
def countersData (group first : Byte) (counters : List Counter) : List Byte :=
  let cs := (counters.drop first.toNat).take Config.countersPerReply
  [group, first, BitVec.ofNat 8 cs.length] ++ cs.flatMap wordBytes

/-- READ_COUNTERS executed (R196). -/
def readCounters (payload : List Byte) (s : State) : State :=
  match readGroup (byteAt payload 2) with
  | none => answer .badValue [] s
  | some g =>
    if (groupCounters g s).length ≤ (byteAt payload 3).toNat then answer .badIndex [] s
    else answer .done (countersData (byteAt payload 2) (byteAt payload 3) (groupCounters g s)) s

/-- READ_COUNTERS (R196). -/
def execReadCounters (s : State) : Host.Outcome State Fault Refusal :=
  unlessReset (completeRequest .readCounters readCounters) s

/-- The port counters of a port set to 0 (R28). -/
def clearPort (p : Port) (s : State) : State :=
  let cleared := setRx p { s.rx.get p with good := 0, checkError := 0, long := 0, overrun := 0 } s
  setTx p { s.tx.get p with sent := 0, aged := 0 } cleared

/-- The counters of a slot set to 0 (R141). -/
def clearSlotCounters (d : Drive) (s : State) : State :=
  setSlot d
    { s.drives.get d with sentCount := 0, retryCount := 0, missCount := 0, lateCount := 0, rejectCount := 0 } s

/-- The counters of a group set to 0; the occurrence counts of the MGMT group stay (R196, R178). -/
def clearGroup (g : CounterGroup) (s : State) : State :=
  match g with
  | .cockpitPort => clearPort .cockpit s
  | .chassisPort => clearPort .chassis s
  | .stream =>
    { s with classifier := { s.classifier with matched := Vector.replicate 24 0, defaulted := 0, tapIdle := 0 } }
  | .channel =>
    { s with
      channels :=
        { s.channels with
          records := Vector.ofFn fun c =>
            { look s.channels.records c with accepted := 0, duplicate := 0, gap := 0, short := 0 } } }
  | .lean => setLeanCounters (fun _ => LeanCounters.zero) s
  | .drive =>
    let cleared := clearSlotCounters .steer (clearSlotCounters .tilt s)
    { cleared with
      shaper :=
        { cleared.shaper with shapedCount := 0, bypassedCount := 0, clampedCount := 0, limitedCount := 0 } }
  | .mgmt => setAgentCounters (fun _ => AgentCounters.zero) s

/-- CLEAR_COUNTERS executed (R196). -/
def clearCounters (payload : List Byte) (s : State) : State :=
  match readGroup (byteAt payload 2) with
  | none => answer .badValue [] s
  | some g => answer .done [] (clearGroup g s)

/-- CLEAR_COUNTERS (R196). -/
def execClearCounters (s : State) : Host.Outcome State Fault Refusal :=
  unlessReset (completeRequest .clearCounters clearCounters) s

/-! ## Faults, control and reset (section 10.6) -/

/-- The latches of the inactive kinds cleared and their occurrence counts set to 0 (R167). -/
def clearLatches (s : State) : State :=
  { s with
    monitor :=
      { s.monitor with
        faults := Vector.ofFn fun i =>
          let r := look s.monitor.faults i
          if r.active then r else { r with latched := false, occurrences := 0 } } }

/-- The clearing of the fault table, after the owners' reports (R167). -/
def clearTable (s : State) : State := settleFaults s.monitor.faults (clearLatches s)

/-- CLEAR_FAULTS executed: drive slots, lock supervisor, then the fault monitor (R167, notes/assumptions/22.md). -/
def clearFaults (_payload : List Byte) (s : State) : State :=
  answer .done [] (clearSlot .tilt s |> clearSlot .steer |> clearLock |> clearTable)

/-- CLEAR_FAULTS (R167). -/
def execClearFaults (s : State) : Host.Outcome State Fault Refusal :=
  unlessReset (completeRequest .clearFaults clearFaults) s

/-- Every condition of step 2 of R194 holds. -/
def engageReady (s : State) : Bool :=
  s.envelope.valid && requiredRoles.all (fun r => roleReady r s)
    && (s.lean.mode != .standby || s.lock.state == .engaged)

/-- The result of ENGAGE_CONTROL, judged in the order of R194. -/
def engageResult (s : State) : Result :=
  match s.lean.mode with
  | .bridge | .active => .refusedMode
  | .standby | .recover =>
    if !engageReady s then .notReady else if latchedAtSeverity 2 s then .refusedFault else .done

/-- The entry to ACTIVE (R87). -/
def enterActive (s : State) : State :=
  { s with lean := { s.lean with mode := .active, excursionRun := 0, timer := some (cycleLimit s) } }

/-- ENGAGE_CONTROL executed (R194, R87). -/
def engageControl (_payload : List Byte) (s : State) : State :=
  answer (engageResult s) [] (if engageResult s = .done then enterActive s else s)

/-- ENGAGE_CONTROL (R194). -/
def execEngageControl (s : State) : Host.Outcome State Fault Refusal :=
  unlessReset (completeRequest .engageControl engageControl) s

/-- RELEASE_CONTROL executed (R88, R194). -/
def releaseControl (_payload : List Byte) (s : State) : State :=
  match s.lean.mode with
  | .bridge => answer .refusedMode [] s
  | .active => answer .done [] (moveToRecover s)
  | .standby | .recover => answer .done [] s

/-- RELEASE_CONTROL (R88). -/
def execReleaseControl (s : State) : Host.Outcome State Fault Refusal :=
  unlessReset (completeRequest .releaseControl releaseControl) s

/-- RESET executed: refused in ACTIVE and RECOVER, else a management reset begins and no reply is built (R195). -/
def resetRequest (_payload : List Byte) (s : State) : State :=
  if controlMode s.lean.mode then answer .refusedMode [] s else beginReset .management s

/-- RESET (R195). -/
def execReset (s : State) : Host.Outcome State Fault Refusal := unlessReset (completeRequest .reset resetRequest) s

end Sys2Proof.Machine
end

