-- ==== Sys2Proof/Machine/Time.lean ====
section
/-! DEFINITION. The passing of 100 µs on an empty queue: clock, timers and the events that fall due (00_scope.md
section 5.6, notes/assumptions 1, 3, 4 and 5). -/

namespace Sys2Proof.Machine

/-- A timer one unit later: a running timer counts down, a stopped one stays stopped. -/
def tickTimer : Timer → Timer
  | none => none
  | some r => some (r - 1)

/-- Every timer of the part and the cycle in flight one unit later. -/
def tickTimers (s : State) : State :=
  { s with
    rx :=
      { cockpit := { s.rx.cockpit with quiet := tickTimer s.rx.cockpit.quiet }
        chassis := { s.rx.chassis with quiet := tickTimer s.rx.chassis.quiet } }
    channels :=
      { s.channels with
        records := s.channels.records.map fun r => { r with timer := tickTimer r.timer } }
    lean :=
      { s.lean with
        timer := tickTimer s.lean.timer
        cycle := s.lean.cycle.map fun c => { c with unitsLeft := c.unitsLeft - 1 } }
    drives :=
      { tilt := { s.drives.tilt with timer := tickTimer s.drives.tilt.timer }
        steer := { s.drives.steer with timer := tickTimer s.drives.steer.timer } }
    lock :=
      { s.lock with
        releaseQualify := tickTimer s.lock.releaseQualify
        engageQualify := tickTimer s.lock.engageQualify
        confirm := tickTimer s.lock.confirm }
    monitor := { s.monitor with interval := tickTimer s.monitor.interval } }

/-- A command when its condition holds. -/
def dueWhen (b : Bool) (c : Instr) : List Instr := if b then [c] else []

/-- The commands of the events that are due. -/
def dueEvents (s : State) : List Instr :=
  dueWhen (timerDue s.rx.cockpit.quiet) (.quietTimerExpiry .cockpit)
    ++ dueWhen (timerDue s.rx.chassis.quiet) (.quietTimerExpiry .chassis)
    ++ ((List.finRange 16).flatMap fun c =>
      dueWhen (timerDue (look s.channels.records c).timer) (.freshnessTimerExpiry c))
    ++ dueWhen (timerDue s.lean.timer) .cycleTimerExpiry
    ++ dueWhen (s.lean.cycle.any fun c => c.unitsLeft == 0) .cycleCompletion
    ++ dueWhen (timerDue s.drives.tilt.timer) (.ackTimerExpiry .tilt)
    ++ dueWhen (timerDue s.drives.steer.timer) (.ackTimerExpiry .steer)
    ++ dueWhen (timerDue s.lock.releaseQualify) .releaseQualifyExpiry
    ++ dueWhen (timerDue s.lock.engageQualify) .engageQualifyExpiry
    ++ dueWhen (timerDue s.lock.confirm && s.lock.state == .releasing) .confirmExpiryReleasing
    ++ dueWhen (timerDue s.lock.confirm && s.lock.state == .engaging) .confirmExpiryEngaging
    ++ dueWhen (timerDue s.monitor.interval) .statusIntervalExpiry

/-- A command put at place `n` of a list. -/
def insertAt (n : Nat) (c : Instr) (cs : List Instr) : List Instr := cs.take n ++ c :: cs.drop n

/-- Commands in a free order: the place of each among those after it is a free value (notes/assumptions/3.md). One
command needs none. -/
def freeOrder : Nat → List Instr → List Instr
  | _, [] => []
  | _, [c] => [c]
  | k, c :: d :: rest =>
    let ordered := freeOrder (k + 1) (d :: rest)
    insertAt (Config.freePlace k % (ordered.length + 1)) c ordered

/-- The commands wait in a free order, and the free values used are counted. -/
def raiseEvents (events : List Instr) (s : State) : State :=
  { s with pending := freeOrder s.freeIndex events, freeIndex := s.freeIndex + (events.length - 1) }

/-- The step of an empty queue. In reset the clock alone goes on, for every timer is stopped. A release of which the
monitor has been told makes STATUS_CLAIM_RETRY wait, and no time passes. Otherwise 100 µs pass and the events that
have fallen due wait (notes/assumptions 1, 3 and 5). -/
def tick (s : State) : State :=
  if inReset s then { s with now := s.now + 1 }
  else if s.monitor.retryDue then { s with pending := [.statusClaimRetry] }
  else
    let later := tickTimers { s with now := s.now + 1 }
    raiseEvents (dueEvents later) later

end Sys2Proof.Machine
end

