-- ==== Sys2Proof/Machine/Dispatch.lean ====
section
/-! DEFINITION. One arm for each command. -/

namespace Sys2Proof.Machine

/-- The effect of a command on everything but the queue. -/
def exec (i : Instr) (s : State) : Host.Outcome State Fault Refusal :=
  match i with
  | .frameStart p => Sys2Proof.Machine.execFrameStart p s
  | .headerComplete p b0 b1 b2 b3 => Sys2Proof.Machine.execHeaderComplete p b0 b1 b2 b3 s
  | .discardEnd p => Sys2Proof.Machine.execDiscardEnd p s
  | .frameEnd p body => Sys2Proof.Machine.execFrameEnd p body s
  | .lineFault p => Sys2Proof.Machine.execLineFault p s
  | .quietTimerExpiry p => Sys2Proof.Machine.execQuietTimerExpiry p s
  | .freshnessTimerExpiry c => Sys2Proof.Machine.execFreshnessTimerExpiry c s
  | .transmissionComplete p => Sys2Proof.Machine.execTransmissionComplete p s
  | .cycleTimerExpiry => Sys2Proof.Machine.execCycleTimerExpiry s
  | .cycleCompletion => Sys2Proof.Machine.execCycleCompletion s
  | .releaseQualifyExpiry => Sys2Proof.Machine.execReleaseQualifyExpiry s
  | .confirmExpiryReleasing => Sys2Proof.Machine.execConfirmExpiryReleasing s
  | .engageQualifyExpiry => Sys2Proof.Machine.execEngageQualifyExpiry s
  | .confirmExpiryEngaging => Sys2Proof.Machine.execConfirmExpiryEngaging s
  | .ackTimerExpiry d => Sys2Proof.Machine.execAckTimerExpiry d s
  | .statusClaimRetry => Sys2Proof.Machine.execStatusClaimRetry s
  | .statusIntervalExpiry => Sys2Proof.Machine.execStatusIntervalExpiry s
  | .supplyLow => Sys2Proof.Machine.execSupplyLow s
  | .supplyRestored => Sys2Proof.Machine.execSupplyRestored s
  | .powerOnReset => Sys2Proof.Machine.execPowerOnReset s
  | .powerOnResetEnd straps low => Sys2Proof.Machine.execPowerOnResetEnd straps low s
  | .pinReset => Sys2Proof.Machine.execPinReset s
  | .pinResetEnd straps low => Sys2Proof.Machine.execPinResetEnd straps low s
  | .managementResetEnd straps low => Sys2Proof.Machine.execManagementResetEnd straps low s
  | .malformedRequest => Sys2Proof.Machine.execMalformedRequest s
  | .readState => Sys2Proof.Machine.execReadState s
  | .readEntry => Sys2Proof.Machine.execReadEntry s
  | .stageEntry => Sys2Proof.Machine.execStageEntry s
  | .discardStage => Sys2Proof.Machine.execDiscardStage s
  | .commit => Sys2Proof.Machine.execCommit s
  | .readCounters => Sys2Proof.Machine.execReadCounters s
  | .clearCounters => Sys2Proof.Machine.execClearCounters s
  | .clearFaults => Sys2Proof.Machine.execClearFaults s
  | .engageControl => Sys2Proof.Machine.execEngageControl s
  | .releaseControl => Sys2Proof.Machine.execReleaseControl s
  | .reset => Sys2Proof.Machine.execReset s

end Sys2Proof.Machine
end

