-- ==== Sys2Proof/Safety.lean ====
section
/-! DEFINITION. The terms in which claims are stated: what an operation may touch, what a report leaves, the values
of reset, and the conditions that every run keeps. -/

namespace Sys2Proof.Machine

/-! ## What an operation may touch -/

/-- The blocks outside the flow of frames, reports and requests are as before, and so is each drive slot but for its
ack timer. -/
structure KeepsBlocks (s t : State) : Prop where
  pending : t.pending = s.pending
  now : t.now = s.now
  freeIndex : t.freeIndex = s.freeIndex
  resets : t.resets = s.resets
  node : t.node = s.node
  rx : t.rx = s.rx
  classifier : t.classifier = s.classifier
  channels : t.channels = s.channels
  envelope : t.envelope = s.envelope
  shaper : t.shaper = s.shaper
  tilt : t.drives.tilt = { s.drives.tilt with timer := t.drives.tilt.timer }
  steer : t.drives.steer = { s.drives.steer with timer := t.drives.steer.timer }

/-- Queueing, picking and releasing: pool, transmitters, ack timers, status-wanted and the notice of a release are
all that may differ (R35, R38, R40, R44, R130, R172). -/
structure TrafficOnly (s t : State) : Prop extends KeepsBlocks s t where
  lean : t.lean = s.lean
  lock : t.lock = s.lock
  agent : t.agent = s.agent
  monitor :
    t.monitor =
      { s.monitor with statusWanted := t.monitor.statusWanted, retryDue := t.monitor.retryDue }

/-- A report with its reactions: fault table, ALERT, status frames, the mode, the lock and what queueing may differ
(R162, R165, R166, R171). -/
structure ReactionOnly (s t : State) : Prop extends KeepsBlocks s t where
  lean : t.lean = { s.lean with mode := t.lean.mode }
  agent : t.agent = s.agent
  quietPorts : t.monitor.quietPorts = s.monitor.quietPorts
  interval : t.monitor.interval = s.monitor.interval
  supplyLow : t.monitor.supplyLow = s.monitor.supplyLow

/-- A reply and the next request: what a report may differ in, and the agent's list, request in hand and counters
(R182, R183). -/
structure RequestOnly (s t : State) : Prop extends KeepsBlocks s t where
  lean : t.lean = { s.lean with mode := t.lean.mode }
  agent :
    t.agent =
      { s.agent with requests := t.agent.requests, inHand := t.agent.inHand, counters := t.agent.counters }
  quietPorts : t.monitor.quietPorts = s.monitor.quietPorts
  interval : t.monitor.interval = s.monitor.interval
  supplyLow : t.monitor.supplyLow = s.monitor.supplyLow

/-- Reception at port `p`: that port's receiver, the pool and the notice of a release are all that may differ (R23 to
R27). -/
structure ReceptionOnly (p : Port) (s t : State) : Prop where
  pending : t.pending = s.pending
  now : t.now = s.now
  freeIndex : t.freeIndex = s.freeIndex
  resets : t.resets = s.resets
  node : t.node = s.node
  rx : t.rx.get p.opposite = s.rx.get p.opposite
  tx : t.tx = s.tx
  classifier : t.classifier = s.classifier
  channels : t.channels = s.channels
  envelope : t.envelope = s.envelope
  lean : t.lean = s.lean
  shaper : t.shaper = s.shaper
  drives : t.drives = s.drives
  lock : t.lock = s.lock
  monitor : t.monitor = { s.monitor with retryDue := t.monitor.retryDue }
  agent : t.agent = s.agent

/-- The frame in progress is counted when it is cut off: in HEADER and BODY (R27). -/
def cutIsCounted : RxPhase → Bool
  | .header | .body _ _ => true
  | .idle | .discarding _ => false

/-- The buffer of the frame in progress, in BODY only. -/
def phaseBuffer : RxPhase → Option Token
  | .body t _ => some t
  | .idle | .header | .discarding _ => none

/-- The frame in the buffer of a receiver in BODY when these bytes have come in. -/
def receivedFrame (t : Token) (remaining : Nat) (body : List Byte) (s : State) : List Byte :=
  (buffer t s).bytes ++ body.take remaining

/-! ## Reports -/

/-- The record that the table of R162 leaves of a record before, a severity in force and a report. -/
def takenRecord (severity : Nat) (active : Bool) (r : FaultRecord) : FaultRecord :=
  if severity = 0 then r
  else if active then
    if r.active then r else { active := true, latched := true, occurrences := bumpByte r.occurrences }
  else { r with active := false }

/-- A report of `k` may also change the records of these kinds: EXCURSION is reported inactive on leaving ACTIVE
(R88), and a status frame's origin claim reports POOL_EXHAUSTED (R33). -/
def reportedAlong (k : FaultKind) : Bool := k == .excursion || k == .poolExhausted

/-- Status-wanted is set on the way from `s` to `t`: with a status frame in hand or wanted already nothing else comes of
it; otherwise a frame is originated in the FREE buffer with the lowest token, or waits for a release when none is FREE
(R170, R171). -/
structure StatusWantedFrom (s t : State) : Prop where
  already :
    s.monitor.statusWanted = true ∨ s.monitor.statusInHand ≠ none →
      t.monitor.statusWanted = true ∧ t.monitor.statusInHand = s.monitor.statusInHand
  originated :
    s.monitor.statusWanted = false → s.monitor.statusInHand = none → ∀ b, lowestFree s = some b →
      t.monitor.statusInHand = some b ∧ t.monitor.statusSeq = s.monitor.statusSeq + 1
  waits :
    s.monitor.statusWanted = false → s.monitor.statusInHand = none → lowestFree s = none →
      t.monitor.statusInHand = none ∧ t.monitor.statusWanted = true ∧ t.pool.releaseNotice = true
        ∧ t.pool.buffers = s.pool.buffers

/-- A status frame has been originated in buffer `b` on the way from `s` to `t`: in hand, its header written, QUEUED on
cockpit PRIORITY or in transmission there, with POOL_EXHAUSTED reported inactive (R171, R33, R172). -/
structure StatusLaunched (b : Token) (s t : State) : Prop where
  inHand : t.monitor.statusInHand = some b
  seq : t.monitor.statusSeq = s.monitor.statusSeq + 1
  wanted : t.monitor.statusWanted = false
  header : (buffer b t).bytes.take 4 = headerBytes 7 (statusStream s.node) s.monitor.statusSeq 18
  arrival : (buffer b t).arrival = s.now
  egress : (buffer b t).egress = some .cockpit
  retainer : (buffer b t).retainer = none
  place :
    (b ∈ t.tx.cockpit.priority ∧ (buffer b t).state = .queued ∧ (buffer b t).bytes.length = 4)
      ∨ (t.tx.cockpit.sending = some b ∧ (buffer b t).state = .sending ∧ (buffer b t).bytes.length = 24)
  pool :
    faultRecord .poolExhausted t = takenRecord (severity .poolExhausted s) false (faultRecord .poolExhausted s)

/-- The lock as a new latch of severity 3 and the end of ACTIVE leave it (R157, R150). -/
def lockAfterLeaving (x : Lock) : Lock :=
  match x.state with
  | .engaged => { x with releaseQualify := none }
  | .releasing => { x with state := .engaged, output := true, confirm := none }
  | .free | .settling | .engaging => x

/-! ## Reset -/

/-- The reset values of the blocks that neither the supply judgement nor the start-up status frame touches
(R1, R23, R28, R29, R47, R50, R71, R85, R111, R125, R143, R180, R198). -/
structure BlocksAtReset (t : State) : Prop where
  receivers : ∀ p, t.rx.get p = Receiver.atReset
  stream : ∀ i, look t.classifier.table i = StreamEntry.atReset
  openMode : t.classifier.openMode = true
  streamCounters : (∀ i, look t.classifier.matched i = 0) ∧ t.classifier.defaulted = 0 ∧ t.classifier.tapIdle = 0
  channel : ∀ c, look t.channels.table c = ChannelEntry.atReset ∧ look t.channels.records c = ChannelRecord.atReset
  rows : ∀ r, look t.envelope.rows r = EnvelopeRow.atReset
  invalid : t.envelope.valid = false
  lean : t.lean = LeanLaw.atReset
  shaper : t.shaper = Shaper.atReset
  slots : ∀ d, t.drives.get d = DriveSlot.atReset
  lock : t.lock = Lock.atReset
  agent : t.agent = Agent.atReset
  quietPorts : t.monitor.quietPorts = { cockpit := false, chassis := false }
  releaseNotice : t.pool.releaseNotice = false

/-- The part just after a reset of kind `k` has begun: every block at its reset values, LOCK and ALERT asserted, no
frame held, the kind held and the one begun last, the cause and the node number as before (R177, R169, R143). -/
structure HeldAtReset (k : ResetKind) (s t : State) : Prop extends BlocksAtReset t where
  held : t.resets = { setHeld k true s.resets with lastBegun := k }
  node : t.node = s.node
  alert : t.monitor.alert = true
  pool : ∀ b, buffer b t = Buffer.empty
  silent : ∀ p, t.tx.get p = Transmitter.atReset
  faults : ∀ f, faultRecord f t = FaultRecord.atReset
  statusSeq : t.monitor.statusSeq = 0
  interval : t.monitor.interval = none
  statusInHand : t.monitor.statusInHand = none

/-- The command that ends a reset of this kind. -/
def endCommand (k : ResetKind) (straps : BitVec 6) (low : Bool) : Instr :=
  match k with
  | .power => .powerOnResetEnd straps low
  | .pin => .pinResetEnd straps low
  | .management => .managementResetEnd straps low

/-- The commands that begin or end a reset from outside. -/
def isResetCommand : Instr → Bool
  | .powerOnReset | .powerOnResetEnd _ _ | .pinReset | .pinResetEnd _ _ | .managementResetEnd _ _ => true
  | .frameStart _ | .headerComplete _ _ _ _ _ | .discardEnd _ | .frameEnd _ _ | .lineFault _ | .quietTimerExpiry _
  | .freshnessTimerExpiry _ | .transmissionComplete _ | .cycleTimerExpiry | .cycleCompletion | .releaseQualifyExpiry
  | .confirmExpiryReleasing | .engageQualifyExpiry | .confirmExpiryEngaging | .ackTimerExpiry _ | .statusClaimRetry
  | .statusIntervalExpiry | .supplyLow | .supplyRestored | .malformedRequest | .readState | .readEntry | .stageEntry
  | .discardStage | .commit | .readCounters | .clearCounters | .clearFaults | .engageControl | .releaseControl
  | .reset => false

/-! ## Management -/

/-- How a STAGE_ENTRY of one table is answered from the index on, in the order of R186: `own` is what the stage holds of
this table, none where it holds another one, and `read` is the content as an entry, none where it is out of range. -/
def StageEntryAnswered {α : Type} {n : Nat} (own : Option (List (Fin n × α))) (index : Byte) (read : Fin n → Option α)
    (stage : List (Fin n × α) → Stage) (s : State) : Prop :=
  (n ≤ index.toNat → exec .stageEntry s = .next (answer .badIndex [] s))
    ∧ ∀ i : Fin n, index.toNat = i.val →
        (read i = none → exec .stageEntry s = .next (answer .badValue [] s))
        ∧ ∀ x, read i = some x →
            (own = none → exec .stageEntry s = .next (answer .stageConflict [] s))
            ∧ ∀ es, own = some es →
                (stageHolds es i = false → 8 ≤ es.length → exec .stageEntry s = .next (answer .stageFull [] s))
                ∧ (stageHolds es i = true ∨ es.length < 8 →
                    exec .stageEntry s =
                      .next (answer .done [] { s with agent := { s.agent with stage := stage (stagePut es i x) } }))

/-- How a COMMIT of the staged table is answered from the check on, in the order of R187: BAD_CHECK and BAD_VALUE with
the stage emptied, REFUSED_MODE with it kept, and else the state `applied`. -/
def CommitAnswered (sum check : Word) (valid : Bool) (refused : Prop) (applied s : State) : Prop :=
  let emptied := { s with agent := { s.agent with stage := .empty } }
  (sum ≠ check →
    exec .commit s =
      .next
        (answer .badCheck [] (setAgentCounters (fun c => { c with badChecks := bump c.badChecks }) emptied)))
    ∧ (sum = check → valid = false → exec .commit s = .next (answer .badValue [] emptied))
    ∧ (sum = check → valid = true → refused → exec .commit s = .next (answer .refusedMode [] s))
    ∧ (sum = check → valid = true → ¬refused → exec .commit s = .next applied)

/-- Two states that differ in event counters only (R28, R65, R109, R123, R141, R197). -/
structure OnlyCountersDiffer (s t : State) : Prop where
  pending : t.pending = s.pending
  now : t.now = s.now
  freeIndex : t.freeIndex = s.freeIndex
  resets : t.resets = s.resets
  node : t.node = s.node
  receivers : ∀ p, (t.rx.get p).phase = (s.rx.get p).phase ∧ (t.rx.get p).quiet = (s.rx.get p).quiet
  pool : t.pool = s.pool
  transmitters : ∀ p, t.tx.get p = { s.tx.get p with sent := (t.tx.get p).sent, aged := (t.tx.get p).aged }
  classifier :
    t.classifier =
      { s.classifier with
        matched := t.classifier.matched, defaulted := t.classifier.defaulted, tapIdle := t.classifier.tapIdle }
  channelTable : t.channels.table = s.channels.table
  records : ∀ c, let r := look t.channels.records c
    r = { look s.channels.records c with
          accepted := r.accepted, duplicate := r.duplicate, gap := r.gap, short := r.short }
  envelope : t.envelope = s.envelope
  lean : t.lean = { s.lean with counters := t.lean.counters }
  shaper : t.shaper.last = s.shaper.last ∧ t.shaper.clamped = s.shaper.clamped
  slots : ∀ d, let x := t.drives.get d
    x = { s.drives.get d with
          sentCount := x.sentCount, retryCount := x.retryCount, missCount := x.missCount, lateCount := x.lateCount,
          rejectCount := x.rejectCount }
  lock : t.lock = s.lock
  monitor : t.monitor = s.monitor
  agent : t.agent = { s.agent with counters := t.agent.counters }

/-! ## What every run keeps -/

/-- The lock state in which LOCK is asserted (R144). -/
def lockAsserted : LockState → Bool
  | .engaged | .engaging => true
  | .releasing | .free | .settling => false

/-- LOCK is asserted in ENGAGED and ENGAGING and negated in the other lock states (R144). -/
def LockLineRight (s : State) : Prop := s.lock.output = lockAsserted s.lock.state

/-- ALERT is asserted in reset, and outside reset exactly while a kind of ALERT_MASK is latched (R168, R169). -/
def AlertRight (s : State) : Prop := s.monitor.alert = (inReset s || alertWanted s)

/-- In ACTIVE no kind whose severity in force is 2 or 3 is latched (R90, R165). -/
def ActiveIsClean (s : State) : Prop := s.lean.mode = .active → latchedAtSeverity 2 s = false

/-- The release-qualify timer runs in ENGAGED only, outside ACTIVE it is stopped and the lock is not RELEASING, and in
BRIDGE and STANDBY the lock is ENGAGED with LOCK asserted (R146, R147, R156). -/
def LockFollowsMode (s : State) : Prop :=
  (s.lock.state ≠ .engaged → s.lock.releaseQualify = none)
    ∧ (s.lean.mode ≠ .active → s.lock.releaseQualify = none ∧ s.lock.state ≠ .releasing)
    ∧ (s.lean.mode = .bridge ∨ s.lean.mode = .standby → s.lock.state = .engaged ∧ s.lock.output = true)

/-- Every active kind is latched (R162). -/
def ActiveImpliesLatched (s : State) : Prop :=
  ∀ k, (faultRecord k s).active = true → (faultRecord k s).latched = true

/-- The tables in force pass the checks of their commits: no role is held twice, every stream entry meets the condition
of its action, and ENGAGE_SPEED is below RELEASE_SPEED (R49, R17, R189). -/
def TablesPassChecks (s : State) : Prop :=
  channelTableValid s.channels.table = true ∧ streamTableValid s.classifier.table = true
    ∧ paramTableValid s.agent.params = true

/-- The stage holds envelope rows that make a valid envelope of the rows in force (R74, R191). -/
def stageMakesEnvelope (s : State) : Prop :=
  ∃ es, s.agent.stage = .envelope es ∧ envelopeValid (overlay s.envelope.rows es) = true

/-- The validity flag tells of a valid envelope, a selected row is an enabled row of one, and a pending commit will
leave one (R72, R77, R191). -/
def EnvelopeSound (s : State) : Prop :=
  (s.envelope.valid = true → envelopeValid s.envelope.rows = true)
    ∧ (∀ r, s.lean.row = some r → s.envelope.valid = true ∧ (look s.envelope.rows r).enabled = true)
    ∧ (s.agent.pendingCommit.isSome = true → stageMakesEnvelope s)

/-- The part is in BRIDGE exactly while open mode is in force (R21, R86). -/
def BridgeIsOpenMode (s : State) : Prop := s.lean.mode = .bridge ↔ s.classifier.openMode = true

/-- The indices in the stage. -/
def stageIndices : Stage → List Nat
  | .empty => []
  | .stream es => es.map fun e => e.1.val
  | .channel es => es.map fun e => e.1.val
  | .envelope es => es.map fun e => e.1.val
  | .param es => es.map fun e => e.1.val

/-- The stage holds at most 8 entries, sorted by index, no two with the same index (R185). -/
def StageLegal (s : State) : Prop :=
  (stageIndices s.agent.stage).length ≤ 8 ∧ (stageIndices s.agent.stage).Pairwise (· < ·)

/-- Every parameter in force or staged is in its range (R198). -/
def ParametersLegal (s : State) : Prop :=
  (∀ i, paramInRange i (look s.agent.params i) = true)
    ∧ ∀ es, s.agent.stage = .param es → ∀ e ∈ es, paramInRange e.1 e.2 = true

/-- The miss count of each slot stays within MISS_LIMIT in force, and below it while the slot is not FAILED (R128,
R135, R137). -/
def MissesWithinLimit (s : State) : Prop :=
  ∀ d, (s.drives.get d).misses ≤ missLimit s
    ∧ ((s.drives.get d).state ≠ .failed → (s.drives.get d).misses < missLimit s)

/-- The tokens of the frames in progress. -/
def receivingTokens (s : State) : List Token :=
  (phaseBuffer s.rx.cockpit.phase).toList ++ (phaseBuffer s.rx.chassis.phase).toList

/-- The tokens that the management agent holds: listed requests, request and reply in hand, and the reply of a
pending commit. -/
def heldTokens (s : State) : List Token :=
  s.agent.requests.map (·.buffer) ++ s.agent.inHand.toList.map (·.request) ++ s.agent.inHand.toList.map (·.reply)
    ++ s.agent.pendingCommit.toList.map (·.reply)

/-- The tokens in the egress queues. -/
def queuedTokens (s : State) : List Token :=
  s.tx.cockpit.priority ++ s.tx.cockpit.transit ++ s.tx.chassis.priority ++ s.tx.chassis.transit

/-- The tokens in transmission. -/
def sendingTokens (s : State) : List Token := s.tx.cockpit.sending.toList ++ s.tx.chassis.sending.toList

/-- Between steps a buffer stands once where its state says, and nowhere else (R31). -/
def PoolAccounted (s : State) : Prop :=
  ∀ t, (receivingTokens s).count t = (if (buffer t s).state = .receiving then 1 else 0)
    ∧ (heldTokens s).count t = (if (buffer t s).state = .held then 1 else 0)
    ∧ (queuedTokens s).count t = (if (buffer t s).state = .queued then 1 else 0)
    ∧ (sendingTokens s).count t = (if (buffer t s).state = .sending then 1 else 0)

/-- Retainers and slots agree: a buffer's retainer is the AWAITING slot that retains it, a RETAINED buffer has one, a
slot retains a buffer exactly in AWAITING, and its ack timer runs only while that buffer is RETAINED (R31, R36, R125,
R127, R130). -/
def RetainersAgree (s : State) : Prop :=
  (∀ t d, (buffer t s).retainer = some d ↔ (s.drives.get d).retained = some t)
    ∧ (∀ t, (buffer t s).retainer ≠ none →
        (buffer t s).state = .queued ∨ (buffer t s).state = .sending ∨ (buffer t s).state = .retained)
    ∧ (∀ t, (buffer t s).state = .retained → (buffer t s).retainer ≠ none)
    ∧ (∀ d, (s.drives.get d).retained ≠ none ↔ (s.drives.get d).state = .awaiting)
    ∧ (∀ d, (s.drives.get d).timer ≠ none →
        ∃ t, (s.drives.get d).retained = some t ∧ (buffer t s).state = .retained)

/-- The status frame in hand waits on cockpit PRIORITY or is in transmission there, without a retainer (R171). -/
def StatusFrameTraced (s : State) : Prop :=
  ∀ t, s.monitor.statusInHand = some t →
    (t ∈ s.tx.cockpit.priority ∨ s.tx.cockpit.sending = some t) ∧ (buffer t s).retainer = none

end Sys2Proof.Machine
end

