-- ==== Sys2Proof/Certificates/Slice0/Obligations.lean ====
section
/-! DEFINITION. The statements for the provers, in the order of OBLIGATIONS.json. -/

open Sys2Proof Sys2Proof.Machine

/-! ## Steps and commands -/

/-- A step of the part with a command at the front of its queue is that command executed on the queue's rest. -/
def Obligations.StepTakesTheFrontCommand : Prop :=
  ∀ (c : Instr) (rest : List Instr) (s : State),
    step { s with pending := c :: rest } = exec c { s with pending := rest }

/-- The model's choice: every command answers a next state, for one whose event cannot occur changes nothing
(notes/assumptions 6 and 7), and leaves the model's own fields alone: the queue, the clock and the count of free values
(notes/assumptions 1 and 3). -/
def Obligations.EveryCommandCompletesAndKeepsTheQueue : Prop :=
  ∀ (c : Instr) (s : State),
    ∃ t, exec c s = .next t ∧ t.pending = s.pending ∧ t.now = s.now ∧ t.freeIndex = s.freeIndex

/-- The model's choice (notes/assumptions 1 and 3): on an empty queue outside reset 100 µs pass, every running timer
counts down, and the commands of the events then due wait, each once, in whatever order. -/
def Obligations.IdleStepLetsTimePass : Prop :=
  ∀ s : State, s.pending = [] → inReset s = false → s.monitor.retryDue = false →
    ∃ t, step s = .next t ∧ t.now = s.now + 1
      ∧ (∀ p, (t.rx.get p).quiet = (s.rx.get p).quiet.map (· - 1))
      ∧ (∀ c, (look t.channels.records c).timer = (look s.channels.records c).timer.map (· - 1))
      ∧ (∀ d, (t.drives.get d).timer = (s.drives.get d).timer.map (· - 1))
      ∧ t.lean.timer = s.lean.timer.map (· - 1)
      ∧ t.lock.releaseQualify = s.lock.releaseQualify.map (· - 1)
      ∧ t.lock.engageQualify = s.lock.engageQualify.map (· - 1)
      ∧ t.lock.confirm = s.lock.confirm.map (· - 1)
      ∧ t.monitor.interval = s.monitor.interval.map (· - 1)
      ∧ t.pending.Perm (dueEvents t)

/-! ## Resets -/

/-- While a reset is held every command but the beginning or end of a reset changes nothing, and the end of one reset
while another is held leaves the part in reset (notes/assumptions 7 and 21). -/
def Obligations.HeldResetTakesNothing : Prop :=
  (∀ (c : Instr) (s : State), inReset s = true → isResetCommand c = false → exec c s = .next s)
  ∧ ∀ (k j : ResetKind) (straps : BitVec 6) (low : Bool) (s : State),
      resetHeld k s.resets = true → j ≠ k → resetHeld j s.resets = true →
      ∃ t, exec (endCommand k straps low) s = .next t ∧ inReset t = true
        ∧ t = { s with resets := setHeld k false s.resets }

/-- A power-on reset, a pin reset and an accepted RESET put every block at its reset values with LOCK and ALERT
asserted. -/
def Obligations.ResetsBeginAtResetValues : Prop :=
  ∀ s : State,
    (s.resets.power = false → ∃ t, exec .powerOnReset s = .next t ∧ HeldAtReset .power s t)
    ∧ (s.resets.pin = false → ∃ t, exec .pinReset s = .next t ∧ HeldAtReset .pin s t)
    ∧ (∀ payload, inReset s = false → requestInHand .reset s = some payload → controlMode s.lean.mode = false →
        ∃ t, exec .reset s = .next t ∧ HeldAtReset .management s t)

/-- The end of the last reset held leaves the reset values, the cause of the kind begun last, the node number of the
straps, the supply judged, and the start-up status frame in transmission. -/
def Obligations.LastResetEndLeavesResetValues : Prop :=
  ∀ (k : ResetKind) (straps : BitVec 6) (low : Bool) (s : State),
    resetHeld k s.resets = true → (∀ j, j ≠ k → resetHeld j s.resets = false) →
    ∃ t, exec (endCommand k straps low) s = .next t ∧ BlocksAtReset t
      ∧ inReset t = false ∧ t.resets.cause = s.resets.lastBegun ∧ t.node = straps
      ∧ t.monitor.supplyLow = low ∧ t.monitor.alert = low
      ∧ (∀ f, faultRecord f t =
          if low = true ∧ f = .supplyLow then { active := true, latched := true, occurrences := 1 }
          else FaultRecord.atReset)
      ∧ t.monitor.interval = none ∧ t.monitor.statusSeq = 1 ∧ t.monitor.statusWanted = false
      ∧ t.monitor.statusInHand = some 0 ∧ t.tx.cockpit.sending = some 0
      ∧ (buffer 0 t).bytes = withCheck (headerBytes 7 (statusStream straps) 0 18 ++ stateRecord t)
      ∧ (buffer 0 t).state = .sending ∧ (buffer 0 t).arrival = s.now ∧ (buffer 0 t).arrivalPort = none
      ∧ (buffer 0 t).egress = some .cockpit ∧ (buffer 0 t).retainer = none
      ∧ (∀ b, b ≠ 0 → buffer b t = Buffer.empty) ∧ t.tx.chassis = Transmitter.atReset
      ∧ t.tx.cockpit = { Transmitter.atReset with runCount := 1, sending := some 0 }
      ∧ t.monitor.quietPorts = { cockpit := false, chassis := false } ∧ t.monitor.retryDue = false
      ∧ t.pool.releaseNotice = false

/-! ## Receivers and the pool -/

/-- A frame start and a line fault end the frame in progress: counted in HEADER and BODY, its buffer released in
BODY; the receiver is then in HEADER or IDLE, and nothing else changes but a notice of the release. -/
def Obligations.FrameStartAndLineFaultEndTheFrame : Prop :=
  ∀ (p : Port) (s : State), inReset s = false →
    let r := s.rx.get p
    let count := if cutIsCounted r.phase then bump r.checkError else r.checkError
    ∃ t u, exec (.frameStart p) s = .next t ∧ exec (.lineFault p) s = .next u
      ∧ t.rx.get p = { r with phase := .header, checkError := count }
      ∧ u.rx.get p = { r with phase := .idle, checkError := count }
      ∧ (∀ b, buffer b t = if phaseBuffer r.phase = some b then Buffer.empty else buffer b s)
      ∧ (∀ b, buffer b u = if phaseBuffer r.phase = some b then Buffer.empty else buffer b s)
      ∧ ReceptionOnly p s t ∧ ReceptionOnly p s u

/-- A header with a length of 33 to 255 makes a long frame: counted, no buffer claimed, 2 + length bytes discarded; the
end of the discard returns the receiver to IDLE. A frame whose check differs is released and counted, the receiver
returns to IDLE, and nothing else changes but a notice of the release. -/
def Obligations.LongAndDamagedFramesAreCounted : Prop :=
  (∀ (p : Port) (b0 b1 b2 b3 : Byte) (s : State), inReset s = false →
     ((s.rx.get p).phase = .header → 33 ≤ b3.toNat →
       exec (.headerComplete p b0 b1 b2 b3) s =
         .next
           { s with
             rx :=
               s.rx.set p
                 { s.rx.get p with phase := .discarding (b3.toNat + 2), long := bump (s.rx.get p).long } })
     ∧ (∀ n, (s.rx.get p).phase = .discarding n →
         exec (.discardEnd p) s = .next { s with rx := s.rx.set p { s.rx.get p with phase := .idle } }))
  ∧ ∀ (p : Port) (body : List Byte) (b : Token) (n : Nat) (s : State),
      inReset s = false → (s.rx.get p).phase = .body b n → n ≤ body.length →
      checkAgrees (receivedFrame b n body s) = false →
      ∃ t, exec (.frameEnd p body) s = .next t
        ∧ t.rx.get p = { s.rx.get p with phase := .idle, checkError := bump (s.rx.get p).checkError }
        ∧ buffer b t = Buffer.empty ∧ (∀ c, c ≠ b → buffer c t = buffer c s) ∧ ReceptionOnly p s t

/-- A header with a length of 0 to 32 claims the FREE buffer with the lowest token when the free count exceeds
ORIGIN_RESERVE, and is otherwise counted as an overrun with the pool unchanged. -/
def Obligations.ArrivalClaimKeepsTheReserve : Prop :=
  ∀ (p : Port) (b0 b1 b2 b3 : Byte) (s : State), inReset s = false → (s.rx.get p).phase = .header → b3.toNat ≤ 32 →
    (originReserve s < freeCount s →
      ∃ b t, exec (.headerComplete p b0 b1 b2 b3) s = .next t
        ∧ (buffer b s).state = .free ∧ (∀ c, c < b → (buffer c s).state ≠ .free)
        ∧ buffer b t =
            { state := .receiving, arrival := s.now, arrivalPort := some p, egress := none, retainer := none,
              bytes := [b0, b1, b2, b3] }
        ∧ (∀ c, c ≠ b → buffer c t = buffer c s) ∧ freeCount t + 1 = freeCount s
        ∧ t = { s with rx := s.rx.set p { s.rx.get p with phase := .body b (b3.toNat + 2) }, pool := t.pool })
    ∧ (freeCount s ≤ originReserve s →
        exec (.headerComplete p b0 b1 b2 b3) s =
          .next
            { s with
              rx :=
                s.rx.set p
                  { s.rx.get p with
                    phase := .discarding (b3.toNat + 2), overrun := bump (s.rx.get p).overrun } })

/-- A good frame is counted, reloads the quiet timer, returns the receiver to IDLE and takes the port out of the
qualifier of LINK_QUIET, which becomes inactive when the qualifier empties; the state is then that of its
classification. -/
def Obligations.GoodFrameIsCountedHeardAndClassified : Prop :=
  ∀ (p : Port) (body : List Byte) (b : Token) (n : Nat) (s : State),
    inReset s = false → (s.rx.get p).phase = .body b n → n ≤ body.length →
    checkAgrees (receivedFrame b n body s) = true →
    let heard := reportPortHeard p (countGood p b (setBytes b (receivedFrame b n body s) s))
    ∃ t, exec (.frameEnd p body) s = .next t ∧ t = classify p b heard
      ∧ t.rx =
          s.rx.set p
            { s.rx.get p with
              phase := .idle, good := bump (s.rx.get p).good, quiet := startUnlessZero (quietTime s) }
      ∧ t.monitor.quietPorts =
          (if severity .linkQuiet s = 0 then s.monitor.quietPorts else s.monitor.quietPorts.set p false)
      ∧ faultRecord .linkQuiet t =
          (if s.monitor.quietPorts.get p = true ∧ s.monitor.quietPorts.get p.opposite = false then
            takenRecord (severity .linkQuiet s) false (faultRecord .linkQuiet s)
          else faultRecord .linkQuiet s)
      ∧ (buffer b (countGood p b (setBytes b (receivedFrame b n body s) s))).state = .held
      ∧ t.envelope = s.envelope ∧ t.classifier.table = s.classifier.table ∧ t.channels.table = s.channels.table
      ∧ t.agent.params = s.agent.params ∧ t.agent.stage = s.agent.stage ∧ t.resets = s.resets ∧ t.node = s.node

/-! ## Classification -/

/-- An entry matches a frame exactly when it is enabled, its ports allow the arrival port, its kind set holds the kind,
and the stream equals base at every bit that is clear in mask. -/
def Obligations.EntryMatchesByFourConditions : Prop :=
  ∀ (e : StreamEntry) (p : Port) (frame : List Byte),
    entryMatches e p frame = true ↔
      e.enabled = true ∧ (e.ports = .both ∨ (e.ports = .cockpit ∧ p = .cockpit) ∨ (e.ports = .chassis ∧ p = .chassis))
        ∧ kindIn (frameKind frame) e.kinds = true
        ∧ ∀ i, i < 12 → e.mask.getLsbD i = false → (frameStream frame).getLsbD i = e.base.getLsbD i

/-- Outside open mode the first entry that matches is counted and acts; with none, the default action does, counted on
the default counter; in open mode the frame goes to TRANSIT of the opposite port; a request to self goes to the agent
in either case. -/
def Obligations.ClassificationTakesTheFirstMatch : Prop :=
  ∀ (p : Port) (b : Token) (s : State),
    let frame := (buffer b s).bytes
    (requestToSelf frame s = true → classify p b s = takeRequest b p s)
    ∧ (requestToSelf frame s = false → s.classifier.openMode = true →
        classify p b s = enqueue p.opposite .transit b s)
    ∧ (requestToSelf frame s = false → s.classifier.openMode = false →
        (∀ i, entryMatches (look s.classifier.table i) p frame = true →
            (∀ j, j < i → entryMatches (look s.classifier.table j) p frame = false) →
            classify p b s = perform (look s.classifier.table i) p b (countMatch i s)
              ∧ (look (countMatch i s).classifier.matched i) = bump (look s.classifier.matched i))
        ∧ ((∀ i, entryMatches (look s.classifier.table i) p frame = false) →
            classify p b s = defaultDisposition p b s))

/-! ## Sample channels -/

/-- The six actions of a matched entry and the default action: which queue of the opposite port, released or delivered,
taps before forwarding or releasing; tapping leaves the frame as it is in a buffer that is not FREE and stands in no
queue, as the frame under classification does. That the signals of the taps come before the forwarding or the release
is the model's choice for TAP_FORWARD and TAP_ABSORB (notes/assumptions/28.md). -/
def Obligations.ActionsDisposeOfTheFrame : Prop :=
  ∀ (e : StreamEntry) (p : Port) (b : Token) (s : State),
    let frame := (buffer b s).bytes
    let queue : Queue := if e.urgent then .priority else .transit
    let tapped := tapFrame frame e.taps s
    let defaulted := { s with classifier := { s.classifier with defaulted := bump s.classifier.defaulted } }
    (e.action = .forward → perform e p b s = enqueue p.opposite queue b s)
    ∧ (e.action = .tapForward → perform e p b s = enqueue p.opposite queue b tapped)
    ∧ (e.action = .tapAbsorb → perform e p b s = releaseBuffer b tapped ∧ buffer b (perform e p b s) = Buffer.empty)
    ∧ (e.action = .shape → perform e p b s = shape p b e.taps e.urgent s)
    ∧ (e.action = .ackTrack →
        perform e p b s = releaseBuffer b (deliverAck e.drive (framePayload frame) s)
          ∧ buffer b (perform e p b s) = Buffer.empty)
    ∧ (e.action = .drop → perform e p b s = releaseBuffer b s ∧ buffer b (perform e p b s) = Buffer.empty)
    ∧ (defaultAction s = 6 →
        defaultDisposition p b s = releaseBuffer b defaulted ∧ buffer b (defaultDisposition p b s) = Buffer.empty)
    ∧ (defaultAction s ≠ 6 → defaultDisposition p b s = enqueue p.opposite .transit b defaulted)
    ∧ ((buffer b s).state ≠ .free → b ∉ queuedTokens s → buffer b tapped = buffer b s)

/-- A tap of an enabled channel is judged in order: a word beyond the payload counts short and a sequence equal to the
last counts a duplicate, each changing nothing else, signals included; any other tap is accepted: value, last sequence,
freshness timer and stale flag are set, a sequence that is not the next one counts a gap, and the role's stale condition
is reported inactive. A tap of a channel that is not enabled counts TAP_IDLE and changes nothing else. -/
def Obligations.TapIsIdleShortDuplicateOrAccepted : Prop :=
  ∀ (frame : List Byte) (c : Channel) (g : Signals) (s : State),
    let e := look s.channels.table c
    let r := look s.channels.records c
    let t := (tap frame c g s).2
    (e.enabled = false →
      tap frame c g s =
        (g, { s with classifier := { s.classifier with tapIdle := bump s.classifier.tapIdle } }))
    ∧ (e.enabled = true → frameLength frame < 2 * e.offset.val + 2 →
      tap frame c g s = (g, putRecord c { r with short := bump r.short } s))
    ∧ (e.enabled = true → 2 * e.offset.val + 2 ≤ frameLength frame → r.lastSeq = some (frameSeq frame) →
        tap frame c g s = (g, putRecord c { r with duplicate := bump r.duplicate } s))
    ∧ (e.enabled = true → 2 * e.offset.val + 2 ≤ frameLength frame → r.lastSeq ≠ some (frameSeq frame) →
        look t.channels.records c =
            { value := some (wordAt (framePayload frame) (2 * e.offset.val)), lastSeq := some (frameSeq frame),
              timer := some e.freshness.toNat, stale := false, accepted := bump r.accepted,
              gap := if r.lastSeq = none ∨ r.lastSeq = some (frameSeq frame - 1) then r.gap else bump r.gap,
              duplicate := r.duplicate, short := r.short }
          ∧ (∀ d, d ≠ c → look t.channels.records d = look s.channels.records d)
          ∧ (∀ k, staleKind e.role = some k → severity k s ≠ 0 → (faultRecord k t).active = false))

/-- An accepted sample of ROLL_RATE raises the anchor signal, one of LOCK_POSITION the lock position signal with its
value, and one of another role none; the taps of a frame come in list order, and its signals after all of them, the
anchor signal first. -/
def Obligations.SignalsFollowTheTapsAnchorFirst : Prop :=
  (∀ (frame : List Byte) (c : Channel) (g : Signals) (s : State),
    let e := look s.channels.table c
    e.enabled = true → 2 * e.offset.val + 2 ≤ frameLength frame →
    (look s.channels.records c).lastSeq ≠ some (frameSeq frame) →
    (tap frame c g s).1 =
      { anchor := g.anchor || e.role == .rollRate,
        lockPosition :=
          if e.role = .lockPosition then some (wordAt (framePayload frame) (2 * e.offset.val)) else g.lockPosition })
  ∧ (∀ (frame : List Byte) (c : Channel) (rest : List Channel) (g : Signals) (s : State),
      tapAll frame [] g s = (g, s)
        ∧ tapAll frame (c :: rest) g s = tapAll frame rest (tap frame c g s).1 (tap frame c g s).2)
  ∧ ∀ (frame : List Byte) (taps : List Channel) (s : State),
      let g := (tapAll frame taps noSignals s).1
      let t := (tapAll frame taps noSignals s).2
      (g.anchor = false → g.lockPosition = none → tapFrame frame taps s = t)
        ∧ (g.anchor = true → g.lockPosition = none → tapFrame frame taps s = anchorSignal t)
        ∧ (∀ v, g.anchor = false → g.lockPosition = some v → tapFrame frame taps s = lockSignal v t)
        ∧ (∀ v, g.anchor = true → g.lockPosition = some v → tapFrame frame taps s = lockSignal v (anchorSignal t))

/-- The expiry of an enabled channel's freshness timer sets its stale flag, keeps its value and sequence, and reports
its role's stale condition active. The expiry of a port's quiet timer leaves it stopped and adds the port to the
qualifier of LINK_QUIET, which becomes active when the qualifier was empty. -/
def Obligations.FreshnessAndQuietExpiriesReport : Prop :=
  (∀ (c : Channel) (s : State),
     inReset s = false → (look s.channels.table c).enabled = true → (look s.channels.records c).timer = some 0 →
     let marked := putRecord c { look s.channels.records c with timer := none, stale := true } s
     ∃ t, exec (.freshnessTimerExpiry c) s = .next t ∧ ReactionOnly marked t
       ∧ (staleKind (look s.channels.table c).role = none → t = marked)
       ∧ ∀ k, staleKind (look s.channels.table c).role = some k →
           faultRecord k t = takenRecord (severity k s) true (faultRecord k s))
  ∧ ∀ (p : Port) (s : State), inReset s = false → (s.rx.get p).quiet = some 0 →
      ∃ t, exec (.quietTimerExpiry p) s = .next t
        ∧ t.rx = s.rx.set p { s.rx.get p with quiet := none }
        ∧ t.monitor.quietPorts =
            (if severity .linkQuiet s = 0 then s.monitor.quietPorts else s.monitor.quietPorts.set p true)
        ∧ faultRecord .linkQuiet t =
            (if s.monitor.quietPorts.get p = true ∨ s.monitor.quietPorts.get p.opposite = true then
              faultRecord .linkQuiet s
            else takenRecord (severity .linkQuiet s) true (faultRecord .linkQuiet s))
        ∧ t.classifier = s.classifier ∧ t.channels = s.channels ∧ t.envelope = s.envelope ∧ t.shaper = s.shaper
        ∧ t.agent = s.agent ∧ t.node = s.node ∧ t.resets = s.resets

/-! ## Transmitters -/

/-- A pick first takes from TRANSIT every head older than TRANSIT_AGE, up to the first that is not; then the table of
the arbiter gives the queue, the run count, and the head taken into transmission. Each head taken off is counted as
aged, and is released, or RETAINED with its slot's ack timer started when it has a retainer. -/
def Obligations.PickAgesThenChoosesByTheTable : Prop :=
  ∀ (p : Port) (s : State),
    let x := s.tx.get p
    let tooOld := fun b => decide (transitAge s < age b s)
    pick p s = choose p (ageHeads p x.transit s)
    ∧ ((ageHeads p x.transit s).tx.get p).transit = x.transit.dropWhile tooOld
    ∧ ((ageHeads p x.transit s).tx.get p).aged = Nat.repeat bump (x.transit.takeWhile tooOld).length x.aged
    ∧ ((ageHeads p x.transit s).tx.get p).priority = x.priority
    ∧ (ageHeads p x.transit s).tx.get p.opposite = s.tx.get p.opposite
    ∧ (∀ b, b ∈ x.transit.takeWhile tooOld → x.transit.count b = 1 →
        ((buffer b s).retainer = none → buffer b (ageHeads p x.transit s) = Buffer.empty)
          ∧ ∀ d, (buffer b s).retainer = some d →
              buffer b (ageHeads p x.transit s) = { buffer b s with state := .retained }
                ∧ ((s.drives.get d).state = .awaiting → (s.drives.get d).retained = some b →
                    ((ageHeads p x.transit s).drives.get d).timer = some (ackTimeout s)))
    ∧ (x.priority = [] → x.transit = [] → choose p s = s)
    ∧ (∀ b rest, x.priority = b :: rest → x.transit = [] ∨ x.runCount.toNat < priorityBurst s →
        (choose p s).tx =
          s.tx.set p { x with priority := rest, runCount := bumpByte x.runCount, sending := some b })
    ∧ (∀ b rest, x.transit = b :: rest → x.priority = [] ∨ priorityBurst s ≤ x.runCount.toNat →
        (choose p s).tx = s.tx.set p { x with transit := rest, runCount := 0, sending := some b })

/-- The chosen buffer becomes SENDING; its bytes are unchanged, but for the status frame in hand on the cockpit port,
whose payload and check are written then, with status-wanted cleared. -/
def Obligations.TransmissionBeginsWithTheBytesHeld : Prop :=
  ∀ (p : Port) (b : Token) (s : State),
    let t := beginTransmission p b s
    (t.tx.get p).sending = some b ∧ (buffer b t).state = .sending
      ∧ (∀ c, c ≠ b → buffer c t = buffer c s)
      ∧ (¬(p = .cockpit ∧ s.monitor.statusInHand = some b) →
          (buffer b t).bytes = (buffer b s).bytes ∧ t.monitor = s.monitor)
      ∧ (p = .cockpit ∧ s.monitor.statusInHand = some b →
          (buffer b t).bytes = withCheck ((buffer b s).bytes.take 4 ++ stateRecord s)
            ∧ t.monitor = { s.monitor with statusWanted := false })

/-- A buffer added to a queue of a busy transmitter joins its tail as QUEUED; added to a queue of an idle transmitter
with both queues empty, and not too old for TRANSIT, it is picked at once and becomes SENDING. -/
def Obligations.AddingABufferQueuesOrPicksIt : Prop :=
  ∀ (p : Port) (q : Queue) (b : Token) (s : State),
    let x := s.tx.get p
    (x.sending ≠ none →
      (enqueue p q b s).tx.get p =
          (match q with
          | .priority => { x with priority := x.priority ++ [b] }
          | .transit => { x with transit := x.transit ++ [b] })
        ∧ buffer b (enqueue p q b s) =
            { buffer b s with state := .queued, egress := some ((buffer b s).egress.getD p) }
        ∧ ∀ c, c ≠ b → buffer c (enqueue p q b s) = buffer c s)
    ∧ (x.sending = none → x.priority = [] → x.transit = [] → (q = .transit → age b s ≤ transitAge s) →
        ((enqueue p q b s).tx.get p).sending = some b ∧ ((enqueue p q b s).tx.get p).priority = []
          ∧ ((enqueue p q b s).tx.get p).transit = [] ∧ (buffer b (enqueue p q b s)).state = .sending)

/-- A completed transmission is counted, its buffer is released, or RETAINED with its slot's ack timer started, and the
transmitter picks. A completed status frame is in hand no longer; with status-wanted set the next one is originated
after the release and before the pick, in the FREE buffer with the lowest token, the released one among them. Were the
status frame retained and no buffer FREE, the claim would be refused. That the buffers named stand in no queue follows
from what EveryStepKeepsThePoolAccounted keeps. -/
def Obligations.TransmissionCompletionSettlesTheBuffer : Prop :=
  ∀ (p : Port) (b : Token) (s : State),
    inReset s = false → (s.tx.get p).sending = some b →
    b ∉ (s.tx.get p).priority → b ∉ (s.tx.get p).transit →
    let next := p = .cockpit ∧ s.monitor.statusInHand = some b ∧ s.monitor.statusWanted = true
    let released := releaseBuffer b (setTx p { s.tx.get p with sent := bump (s.tx.get p).sent } s)
    ∃ t, exec (.transmissionComplete p) s = .next t
      ∧ (t.tx.get p).sent = bump (s.tx.get p).sent
      ∧ (¬next → (buffer b s).retainer = none → buffer b t = Buffer.empty)
      ∧ (∀ d, (buffer b s).retainer = some d →
          (buffer b t).state = .retained ∧ (buffer b t).bytes = (buffer b s).bytes
            ∧ ((s.drives.get d).state = .awaiting → (s.drives.get d).retained = some b →
                (t.drives.get d).timer = some (ackTimeout s)))
      ∧ (p = .cockpit → s.monitor.statusInHand = some b → s.monitor.statusWanted = false →
          t.monitor.statusInHand = none)
      ∧ ((s.tx.get p).priority = [] → (s.tx.get p).transit = [] → ¬next → (t.tx.get p).sending = none)
      ∧ (next → (buffer b s).retainer = none →
          t = idleAndPick p (originateStatus { released with monitor := { released.monitor with statusInHand := none } })
            ∧ ∀ n, (n = b ∨ (buffer n s).state = .free) → (∀ c, c < n → c ≠ b ∧ (buffer c s).state ≠ .free) →
                n ∉ queuedTokens s → StatusLaunched n s t)
      ∧ (next → (buffer b s).retainer ≠ none → lowestFree s = none →
          t.monitor.statusInHand = none ∧ t.monitor.statusWanted = true
            ∧ (t.pool.releaseNotice = true ∨ t.monitor.retryDue = true)
            ∧ faultRecord .poolExhausted t =
                takenRecord (severity .poolExhausted s) true (faultRecord .poolExhausted s))
      ∧ ReactionOnly s t

/-! ## The lean law -/

/-- The expiry of the cycle timer starts a blind cycle in ACTIVE and RECOVER, and in STANDBY leaves the timer stopped. A
cycle records at its start its cause, the mode, the lock state and the snapshot of the channels, selects its row,
computes its target, error and command from them, restarts the cycle timer and is counted by its cause and by the lack
of a row; nothing else changes. -/
def Obligations.CyclesStartWithTheirSnapshot : Prop :=
  (∀ s : State, inReset s = false → s.lean.timer = some 0 → s.lean.cycle = none →
     (s.lean.mode = .active ∨ s.lean.mode = .recover →
       ∃ t c, exec .cycleTimerExpiry s = .next t ∧ t.lean.cycle = some c ∧ c.cause = .timer
         ∧ c.startMode = s.lean.mode ∧ c.startLock = s.lock.state ∧ c = newCycle .timer c.row s
         ∧ t.lean.timer = some (cycleLimit s)
         ∧ t.lean.counters.blindCycles = bump s.lean.counters.blindCycles
         ∧ t = { s with lean := { s.lean with
             row := t.lean.row, cycle := t.lean.cycle, timer := t.lean.timer, counters := t.lean.counters } })
     ∧ (s.lean.mode = .standby →
         exec .cycleTimerExpiry s = .next { s with lean := { s.lean with timer := none } }))
  ∧ ∀ (cause : Cause) (s : State), s.lean.mode ≠ .bridge →
      ∃ c, (startCycle cause s).lean.cycle = some c
        ∧ c.cause = cause ∧ c.startMode = s.lean.mode ∧ c.startLock = s.lock.state
        ∧ c.speed = roleValue .speed s ∧ c.speedStale = roleStale .speed s ∧ c.omega = roleValue .rollRate s
        ∧ c.theta = roleValue .leanAngle s ∧ c.steer = roleValue .riderSteer s
        ∧ c.row = selectRow s.envelope s.lean.row (magnitude c.speed) (bandHyst s)
        ∧ c = newCycle cause c.row s
        ∧ startCycle cause s =
            { s with
              lean :=
                { s.lean with
                  row := c.row, cycle := some c, timer := some (cycleLimit s)
                  counters := (startCycle cause s).lean.counters } }
        ∧ (startCycle cause s).lean.counters =
            { s.lean.counters with
              anchorCycles :=
                if cause = .anchor then bump s.lean.counters.anchorCycles else s.lean.counters.anchorCycles
              pendingCycles :=
                if cause = .pending then bump s.lean.counters.pendingCycles else s.lean.counters.pendingCycles
              blindCycles :=
                if cause = .timer then bump s.lean.counters.blindCycles else s.lean.counters.blindCycles
              withoutRow := if c.row = none then bump s.lean.counters.withoutRow else s.lean.counters.withoutRow }

/-- An anchor signal outside BRIDGE starts a cycle, becomes the pending anchor, or is discarded with CYCLE_OVERRUN
reported active, by the cycle in flight and the pending anchor. -/
def Obligations.AnchorSignalFollowsTheTable : Prop :=
  ∀ s : State, s.lean.mode ≠ .bridge →
    (s.lean.cycle = none →
      ∃ c, (anchorSignal s).lean.cycle = some c ∧ c = newCycle .anchor c.row s ∧ anchorSignal s = startCycle .anchor s
        ∧ (anchorSignal s).lean.counters.anchorCycles = bump s.lean.counters.anchorCycles)
    ∧ (s.lean.cycle ≠ none → s.lean.pendingAnchor = false →
        anchorSignal s =
          { s with
            lean :=
              { s.lean with
                pendingAnchor := true
                counters := { s.lean.counters with overlaps := bump s.lean.counters.overlaps } } })
    ∧ (s.lean.cycle ≠ none → s.lean.pendingAnchor = true →
        (anchorSignal s).lean.counters =
            { s.lean.counters with discardedAnchors := bump s.lean.counters.discardedAnchors }
          ∧ (anchorSignal s).lean.cycle = s.lean.cycle ∧ (anchorSignal s).lean.pendingAnchor = true
          ∧ faultRecord .cycleOverrun (anchorSignal s) =
              takenRecord (severity .cycleOverrun s) true (faultRecord .cycleOverrun s))

/-- A cycle that starts in ACTIVE or RECOVER with a row takes its raw target by start mode and start lock state, moves
the previous target toward it by its step and clamps to the lean limit; its command is Kp · e minus Kd · ω, divided by
64 toward zero, clamped to TILT_MAX, and 0 below the tilt deadband and with the lock ENGAGED or ENGAGING. In every
mode and with or without a row, the target stays within the lean limit and the command within TILT_MAX and out of the
deadband, and both are 0 without a row and in STANDBY; the error is the target less the lean. -/
def Obligations.CycleComputesItsTargetAndCommand : Prop :=
  (∀ (cause : Cause) (r : Fin 12) (s : State), s.lean.mode = .active ∨ s.lean.mode = .recover →
     let row := look s.envelope.rows r
     let c := newCycle cause (some r) s
     let previous := s.lean.target
     let raw : Int :=
       if s.lean.mode = .active ∧ (s.lock.state = .free ∨ s.lock.state = .releasing) then
         (roleValue .riderSteer s * (row.leanPerSteer.toNat : Int)).tdiv 256
       else 0
     let step : Int :=
       if s.lean.mode = .recover ∨ s.lock.state = .settling then (recoveryStep s : Int) else (row.leanStep.toNat : Int)
     let moved := max (previous - step) (min (previous + step) raw)
     let limit : Int := (row.leanLimit.toNat : Int)
     let pulled := ((row.kp.toNat : Int) * (c.target - roleValue .leanAngle s)
       - (row.kd.toNat : Int) * roleValue .rollRate s).tdiv 64
     let bounded := max (-(tiltMax s : Int)) (min (tiltMax s : Int) pulled)
     c.target = max (-limit) (min limit moved)
       ∧ c.command =
           (if s.lock.state = .engaged ∨ s.lock.state = .engaging
               ∨ magnitude bounded < (row.tiltDeadband.toNat : Int) then 0
           else bounded))
  ∧ ∀ (cause : Cause) (row : Option (Fin 12)) (s : State),
      (∀ r, row = some r →
        magnitude (newCycle cause row s).target ≤ ((look s.envelope.rows r).leanLimit.toNat : Int))
      ∧ (row = none ∨ s.lean.mode = .standby → (newCycle cause row s).target = 0)
      ∧ (newCycle cause row s).error = (newCycle cause row s).target - roleValue .leanAngle s
      ∧ magnitude (newCycle cause row s).command ≤ (tiltMax s : Int)
      ∧ (∀ r, row = some r → (newCycle cause row s).command ≠ 0 →
          ((look s.envelope.rows r).tiltDeadband.toNat : Int) ≤ magnitude (newCycle cause row s).command)
      ∧ (row = none ∨ s.lean.mode = .standby ∨ s.lock.state = .engaged ∨ s.lock.state = .engaging →
          (newCycle cause row s).command = 0)

/-- A completion records target, command and lean, ends the cycle in flight, and then originates its tilt command,
judges excursion, reports to the lock supervisor, applies a pending commit, and starts a counted cycle with cause
PENDING exactly when an anchor is pending, reporting CYCLE_OVERRUN inactive when none is. That this report comes last
is the model's choice (notes/assumptions/31.md), and so is the mode that excursion reads (notes/assumptions/29.md). It
sends one tilt command when it started and completes in ACTIVE or RECOVER with a row and a buffer is FREE, loses it
when none is, and sends nothing otherwise. The command's frame stands in the FREE buffer with the lowest token, on
chassis PRIORITY or in transmission there; for this the pool is accounted for, as EveryStepKeepsThePoolAccounted keeps
it. -/
def Obligations.CompletionRecordsTheResultsAndSends : Prop :=
  ∀ (c : Cycle) (s : State), inReset s = false → s.lean.cycle = some c →
    let sends := (c.startMode = .active ∨ c.startMode = .recover) ∧ (s.lean.mode = .active ∨ s.lean.mode = .recover)
      ∧ c.row ≠ none
    ∃ t, exec .cycleCompletion s = .next t
      ∧ t =
          pendingAnchorStart
            (applyPendingCommit
              (completionReport c.speed c.theta c.speedStale
                (judgeExcursion c (originateTilt c (recordResults c s)))))
      ∧ faultRecord .cycleOverrun t =
          (if s.lean.pendingAnchor then faultRecord .cycleOverrun s
          else takenRecord (severity .cycleOverrun s) false (faultRecord .cycleOverrun s))
      ∧ (s.lean.pendingAnchor = false → t.lean.counters.pendingCycles = s.lean.counters.pendingCycles)
      ∧ (s.lean.mode ≠ .bridge →
          t.lean.target = c.target ∧ t.lean.command = c.command ∧ t.lean.reported = c.theta
            ∧ t.lean.pendingAnchor = false
            ∧ (s.lean.pendingAnchor = false → t.lean.cycle = none)
            ∧ (s.lean.pendingAnchor = true →
                (∃ n, t.lean.cycle = some n ∧ n.cause = .pending)
                  ∧ t.lean.counters.pendingCycles = bump s.lean.counters.pendingCycles)
            ∧ t.agent.pendingCommit = none ∧ t.agent.params = s.agent.params ∧ t.classifier = s.classifier
            ∧ t.channels = s.channels ∧ t.rx = s.rx ∧ t.node = s.node ∧ t.resets = s.resets)
      ∧ (sends → lowestFree s ≠ none →
          t.lean.counters.originated = bump s.lean.counters.originated ∧ t.lean.counters.lost = s.lean.counters.lost
            ∧ t.lean.tiltSeq = s.lean.tiltSeq + 1 ∧ t.drives.tilt.sentCount = bump s.drives.tilt.sentCount)
      ∧ (sends → lowestFree s = none →
          t.lean.counters.lost = bump s.lean.counters.lost ∧ t.lean.counters.originated = s.lean.counters.originated
            ∧ t.lean.tiltSeq = s.lean.tiltSeq ∧ t.drives.tilt.sentCount = s.drives.tilt.sentCount)
      ∧ (¬sends →
          t.lean.counters.originated = s.lean.counters.originated ∧ t.lean.counters.lost = s.lean.counters.lost
            ∧ t.lean.tiltSeq = s.lean.tiltSeq ∧ t.drives.tilt.sentCount = s.drives.tilt.sentCount)
      ∧ (sends → PoolAccounted s → ∀ b, lowestFree s = some b →
          (buffer b t).bytes =
              buildFrame 3 (tiltStream s) s.lean.tiltSeq
                (wordBytes (signedWord c.command) ++ wordBytes (signedWord c.target)
                  ++ [modeCode c.startMode, rowCode c.row])
            ∧ (buffer b t).arrival = s.now
            ∧ ((b ∈ t.tx.chassis.priority ∧ (buffer b t).state = .queued)
              ∨ (t.tx.chassis.sending = some b ∧ (buffer b t).state = .sending)))

/-- Excursion is judged at the ACTIVE completion of a cycle started in ACTIVE, and at no other: an error beyond
EXC_THRESH counts in the run and is reported active from EXC_COUNT on; any other error ends the run and is reported
inactive. An EXCURSION of severity 2 or 3 that becomes active leaves ACTIVE and is inactive and latched then. The mode
is the one that stands at the judging; that in a completion this comes after the tilt command's own effects on the mode
is the model's choice (notes/assumptions/29.md). -/
def Obligations.ExcursionIsJudgedInActive : Prop :=
  ∀ (c : Cycle) (s : State),
    let t := judgeExcursion c s
    let r := faultRecord .excursion s
    let run := bumpByte s.lean.excursionRun
    let both := c.startMode = .active ∧ s.lean.mode = .active
    (¬both → t = s)
    ∧ (both → (excThresh s : Int) < magnitude c.error →
        t.lean.excursionRun = run
          ∧ t.lean.counters =
              { s.lean.counters with excursionCycles := bump s.lean.counters.excursionCycles }
          ∧ (run.toNat < excCount s → faultRecord .excursion t = r ∧ t.lean.mode = .active)
          ∧ (excCount s ≤ run.toNat → severity .excursion s = 0 → faultRecord .excursion t = r)
          ∧ (excCount s ≤ run.toNat → severity .excursion s = 1 → severity .poolExhausted s ≤ 1 →
              faultRecord .excursion t = takenRecord 1 true r ∧ t.lean.mode = .active)
          ∧ (excCount s ≤ run.toNat → 2 ≤ severity .excursion s → r.active = false →
              faultRecord .excursion t = { active := false, latched := true, occurrences := bumpByte r.occurrences }
                ∧ t.lean.mode = .recover))
    ∧ (both → magnitude c.error ≤ (excThresh s : Int) →
        t.lean.excursionRun = 0 ∧ t.lean.counters = s.lean.counters
          ∧ faultRecord .excursion t = takenRecord (severity .excursion s) false r)

/-! ## The envelope -/

/-- In a valid envelope with no row selected, the selection is the highest enabled row whose low edge is at most the
speed magnitude, and there is one. With a row selected, the selection moves up while the next row is enabled and the
speed reaches its low edge plus BAND_HYST, down while the speed is below its own low edge minus BAND_HYST, and stays on
an enabled row. -/
def Obligations.SelectionTakesTheBandWithHysteresis : Prop :=
  ∀ (env : Envelope) (speed : Int) (hyst : Nat),
    env.valid = true → envelopeValid env.rows = true → 0 ≤ speed →
    (∃ r, selectRow env none speed hyst = some r ∧ (look env.rows r).enabled = true
      ∧ ((look env.rows r).lowEdge.toNat : Int) ≤ speed
      ∧ ∀ q, r < q → (look env.rows q).enabled = true → speed < ((look env.rows q).lowEdge.toNat : Int))
    ∧ ∀ r : Fin 12, (look env.rows r).enabled = true →
        ∃ q, selectRow env (some r) speed hyst = some q ∧ (look env.rows q).enabled = true
          ∧ (r < q → ((look env.rows q).lowEdge.toNat : Int) + hyst ≤ speed)
          ∧ (∀ u, u.val = q.val + 1 → r ≤ q → (look env.rows u).enabled = true →
              speed < ((look env.rows u).lowEdge.toNat : Int) + hyst)
          ∧ (q < r → ∀ u, u.val = q.val + 1 → speed < ((look env.rows u).lowEdge.toNat : Int) - hyst)
          ∧ (q ≤ r → q = 0 ∨ ((look env.rows q).lowEdge.toNat : Int) - hyst ≤ speed)

/-! ## The steer shaper -/

/-- The shaped value: the demand clamped to ±L, reached from the last shaped value by at most the steer step, clamped to
±L again, and 0 below the row's steer deadband. The clamped flag is set exactly when the demand lies outside ±L, the
clamped and rate-limited counters count those frames, and the last shaped value becomes the shaped value. -/
def Obligations.ShapingComputesAndRecordsItsValue : Prop :=
  ∀ (s0 : Int) (s : State),
    let l := steerLimit s
    let step : Int := ((rowInUse s).steerStep.toNat : Int)
    let s1 := max (-l) (min l s0)
    let stepped :=
      match s.shaper.last with
      | none => s1
      | some q => max (q - step) (min (q + step) s1)
    let settled := max (-l) (min l stepped)
    l = (if s.lean.mode = .recover then min ((rowInUse s).steerLimit.toNat : Int) (recoverSteer s : Int)
        else ((rowInUse s).steerLimit.toNat : Int))
      ∧ shapedValue s0 s = (if magnitude settled < ((rowInUse s).steerDeadband.toNat : Int) then 0 else settled)
      ∧ magnitude (shapedValue s0 s) ≤ l
      ∧ ((shapedShaper s0 s).clamped = true ↔ l < magnitude s0)
      ∧ (shapedShaper s0 s).clampedCount =
          (if l < magnitude s0 then bump s.shaper.clampedCount else s.shaper.clampedCount)
      ∧ (shapedShaper s0 s).limitedCount =
          (if stepped = s1 then s.shaper.limitedCount else bump s.shaper.limitedCount)
      ∧ (shapedShaper s0 s).shapedCount = bump s.shaper.shapedCount
      ∧ (shapedShaper s0 s).bypassedCount = s.shaper.bypassedCount
      ∧ (shapedShaper s0 s).last = some (shapedValue s0 s)

/-- A frame of a SHAPE entry is tapped, and then bypassed when the envelope is invalid, the first listed channel is not
an enabled RIDER_STEER channel, or its word lies beyond the payload; else its word is rewritten with the shaped value,
and it is handed to the STEER slot when TRACK_STEER is 1. It is forwarded in either case. That a bypassed frame is
forwarded after DEMAND_CLAMPED is reported inactive is the model's choice (notes/assumptions/30.md). -/
def Obligations.SteerFramesAreShapedOrBypassed : Prop :=
  ∀ (p : Port) (b : Token) (c : Channel) (rest : List Channel) (urgent : Bool) (s : State),
    let frame := (buffer b s).bytes
    let queue : Queue := if urgent then .priority else .transit
    let u := tapFrame frame (c :: rest) s
    let e := look u.channels.table c
    let bypassed := u.envelope.valid = false ∨ e.enabled = false ∨ e.role ≠ .riderSteer
      ∨ frameLength frame < 2 * e.offset.val + 2
    let s0 := (wordAt (framePayload frame) (2 * e.offset.val)).toInt
    let counted := { u with shaper := { u.shaper with clamped := false, bypassedCount := bump u.shaper.bypassedCount } }
    let reported := report .demandClamped (decide (steerLimit u < magnitude s0)) { u with shaper := shapedShaper s0 u }
    let written := setBytes b (rewriteWord frame (2 * e.offset.val) (signedWord (shapedValue s0 u))) reported
    (bypassed →
      shape p b (c :: rest) urgent s = enqueue p.opposite queue b (report .demandClamped false counted))
    ∧ (¬bypassed → trackSteer s = 1 →
        shape p b (c :: rest) urgent s = enqueue p.opposite queue b (handOver .steer b (frameSeq frame) written))
    ∧ (¬bypassed → trackSteer s ≠ 1 → shape p b (c :: rest) urgent s = enqueue p.opposite queue b written)

/-- A rewrite replaces one word of the payload and makes the check agree; header and the other payload bytes stay. -/
def Obligations.RewriteChangesOneWordAndTheCheck : Prop :=
  ∀ (frame : List Byte) (i : Nat) (w : Word),
    4 + frameLength frame ≤ frame.length → i + 1 < frameLength frame →
    checkAgrees (rewriteWord frame i w) = true
      ∧ wordAt (framePayload (rewriteWord frame i w)) i = w
      ∧ (rewriteWord frame i w).length = 4 + frameLength frame + 2
      ∧ ∀ j, j < 4 + frameLength frame → j ≠ 4 + i → j ≠ 5 + i →
          byteAt (rewriteWord frame i w) j = byteAt frame j

/-! ## Drive exchanges -/

/-- A command handed to an IDLE slot becomes outstanding with its buffer marked; handed to a FAILED slot it is only
counted. Handed to an AWAITING slot it supersedes: a miss is counted and the old buffer withdrawn, RETAINED released,
QUEUED taken out of its queue and released, SENDING left without retainer; the new command is then outstanding, unless
the miss reaches MISS_LIMIT and the drive is lost. -/
def Obligations.HandOverTracksSupersedesOrOnlyCounts : Prop :=
  ∀ (d : Drive) (b : Token) (q : Byte) (s : State),
    let x := s.drives.get d
    let t := handOver d b q s
    let missed := { x with misses := x.misses + 1, missCount := bump x.missCount, sentCount := bump x.sentCount,
                           retries := 0, timer := none }
    (x.state = .idle →
      t =
        { s with
          drives :=
            s.drives.set d
              { x with
                state := .awaiting, outstanding := some q, retained := some b, retries := 0,
                sentCount := bump x.sentCount }
          pool := { s.pool with buffers := put s.pool.buffers b { buffer b s with retainer := some d } } })
    ∧ (x.state = .failed → t = { s with drives := s.drives.set d { x with sentCount := bump x.sentCount } })
    ∧ (x.state = .awaiting → x.misses + 1 = missLimit s →
        t.drives.get d = { missed with state := .failed, outstanding := none, retained := none }
          ∧ faultRecord (lostKind d) t = takenRecord (severity (lostKind d) s) true (faultRecord (lostKind d) s))
    ∧ (x.state = .awaiting → x.misses + 1 ≠ missLimit s →
        t.drives.get d = { missed with state := .awaiting, outstanding := some q, retained := some b }
          ∧ ∀ o, x.retained = some o → o ≠ b →
              buffer b t = { buffer b s with retainer := some d }
                ∧ (∀ c, c ≠ o → c ≠ b → buffer c t = buffer c s)
                ∧ ((buffer o s).state = .retained → buffer o t = Buffer.empty ∧ t.tx = s.tx)
                ∧ ((buffer o s).state = .queued →
                    buffer o t = Buffer.empty
                      ∧ ∀ p, t.tx.get p =
                          { s.tx.get p with
                            priority := (s.tx.get p).priority.filter (· != o)
                            transit := (s.tx.get p).transit.filter (· != o) })
                ∧ ((buffer o s).state = .sending → buffer o t = { buffer o s with retainer := none } ∧ t.tx = s.tx))

/-- A matching OK ends the command as good: the slot is IDLE with nothing outstanding and no misses, and its RETAINED
buffer is released. A matching REJECT ends it as refused: a reject and a miss are counted, and the slot is IDLE, or
FAILED with the drive lost when the miss reaches MISS_LIMIT. An acknowledgement that is too short, finds the slot IDLE
or FAILED, or names another sequence is counted late and changes nothing else. -/
def Obligations.AcknowledgementEndsTheCommandOrIsLate : Prop :=
  ∀ (d : Drive) (payload : List Byte) (s : State),
    let x := s.drives.get d
    (2 ≤ payload.length → x.state = .awaiting → x.outstanding = some (byteAt payload 0) → byteAt payload 1 = 1 →
      (deliverAck d payload s).drives =
          s.drives.set d
            { x with
              state := .idle, outstanding := none, retained := none, retries := 0, misses := 0, timer := none }
        ∧ (∀ b, x.retained = some b → (buffer b s).state = .retained →
            buffer b (deliverAck d payload s) = Buffer.empty)
        ∧ (∀ b, x.retained = some b → (buffer b s).state = .queued ∨ (buffer b s).state = .sending →
            buffer b (deliverAck d payload s) = { buffer b s with retainer := none }))
    ∧ (2 ≤ payload.length → x.state = .awaiting → x.outstanding = some (byteAt payload 0) → byteAt payload 1 ≠ 1 →
        (deliverAck d payload s).drives.get d =
            { x with
              state := if x.misses + 1 = missLimit s then .failed else .idle
              outstanding := none, retained := none, retries := 0, timer := none, misses := x.misses + 1,
              missCount := bump x.missCount, rejectCount := bump x.rejectCount }
          ∧ (x.misses + 1 = missLimit s →
              faultRecord (lostKind d) (deliverAck d payload s) =
                takenRecord (severity (lostKind d) s) true (faultRecord (lostKind d) s))
          ∧ (x.misses + 1 ≠ missLimit s →
              (∀ b, x.retained = some b → (buffer b s).state = .retained →
                buffer b (deliverAck d payload s) = Buffer.empty)
              ∧ ∀ b, x.retained = some b → (buffer b s).state = .queued ∨ (buffer b s).state = .sending →
                  buffer b (deliverAck d payload s) = { buffer b s with retainer := none }))
    ∧ (payload.length < 2 ∨ x.state ≠ .awaiting ∨ x.outstanding ≠ some (byteAt payload 0) →
        deliverAck d payload s =
          { s with drives := s.drives.set d { x with lateCount := bump x.lateCount } })

/-- The expiry of an AWAITING slot's ack timer counts a miss: at MISS_LIMIT the drive is lost; otherwise the command is
retried while retries are left, on PRIORITY of its egress port, and ended when none is. A buffer that stands in no queue
is meant where the place of the retry is told: a RETAINED buffer stands in none (EveryStepKeepsThePoolAccounted). -/
def Obligations.AckExpiryRetriesEndsOrFails : Prop :=
  ∀ (d : Drive) (b : Token) (s : State),
    let x := s.drives.get d
    inReset s = false → x.state = .awaiting → x.timer = some 0 → x.retained = some b → (buffer b s).state = .retained →
    ∃ t, exec (.ackTimerExpiry d) s = .next t
      ∧ (t.drives.get d).missCount = bump x.missCount ∧ (t.drives.get d).misses = x.misses + 1
      ∧ (x.misses + 1 = missLimit s →
          (t.drives.get d).state = .failed ∧ (t.drives.get d).outstanding = none ∧ (t.drives.get d).retained = none
            ∧ (t.drives.get d).retries = 0
            ∧ faultRecord (lostKind d) t = takenRecord (severity (lostKind d) s) true (faultRecord (lostKind d) s))
      ∧ (x.misses + 1 ≠ missLimit s → x.retries < retryLimit s →
          (t.drives.get d).state = .awaiting ∧ (t.drives.get d).outstanding = x.outstanding
            ∧ (t.drives.get d).retained = some b ∧ (t.drives.get d).retries = x.retries + 1
            ∧ (t.drives.get d).retryCount = bump x.retryCount
            ∧ ∀ e, (buffer b s).egress = some e → b ∉ queuedTokens s →
                (b ∈ (t.tx.get e).priority ∧ (buffer b t).state = .queued)
                  ∨ ((t.tx.get e).sending = some b ∧ (buffer b t).state = .sending))
      ∧ (x.misses + 1 ≠ missLimit s → retryLimit s ≤ x.retries →
          (t.drives.get d).state = .idle ∧ (t.drives.get d).outstanding = none ∧ (t.drives.get d).retained = none
            ∧ (t.drives.get d).retries = 0 ∧ buffer b t = Buffer.empty)
      ∧ t.classifier = s.classifier ∧ t.channels = s.channels ∧ t.envelope = s.envelope ∧ t.agent = s.agent
      ∧ t.rx = s.rx ∧ t.shaper = s.shaper

/-! ## The tilt lock -/

/-- The release-qualify timer's expiry in ENGAGED moves the lock to RELEASING with LOCK negated and the confirm timer
started; the engage-qualify timer's expiry in FREE moves it to SETTLING; nothing else changes. The confirm timer's
expiry reports LOCK_STUCK in RELEASING and returns the lock to ENGAGED with LOCK asserted; in ENGAGING it reports
LOCK_NO_CONFIRM and the lock stays. -/
def Obligations.LockTimerExpiriesMoveTheLock : Prop :=
  (∀ s : State, inReset s = false →
      (s.lock.state = .engaged → s.lock.releaseQualify = some 0 →
        exec .releaseQualifyExpiry s =
          .next
            { s with
              lock :=
                { s.lock with
                  state := .releasing, output := false, releaseQualify := none, confirm := some (confirmTime s) } })
      ∧ (s.lock.state = .free → s.lock.engageQualify = some 0 →
          exec .engageQualifyExpiry s =
            .next { s with lock := { s.lock with state := .settling, output := false, engageQualify := none } }))
  ∧ ∀ s : State, inReset s = false → s.lock.confirm = some 0 →
      (s.lock.state = .releasing →
        ∃ t, exec .confirmExpiryReleasing s = .next t
          ∧ t.lock = { s.lock with state := .engaged, output := true, releaseQualify := none, confirm := none }
          ∧ faultRecord .lockStuck t = takenRecord (severity .lockStuck s) true (faultRecord .lockStuck s)
          ∧ ReactionOnly s t)
      ∧ (s.lock.state = .engaging →
          ∃ t, exec .confirmExpiryEngaging s = .next t
            ∧ t.lock = { s.lock with confirm := none }
            ∧ faultRecord .lockNoConfirm t = takenRecord (severity .lockNoConfirm s) true (faultRecord .lockNoConfirm s)
            ∧ ReactionOnly s t)

/-- A lock position signal confirms a release or an engagement, or is checked for slip, by the lock state and by the
value against LOCK_THRESH. -/
def Obligations.LockSignalFollowsTheTable : Prop :=
  ∀ (v : Word) (s : State),
    let engaged := (lockThresh s : Int) ≤ v.toInt
    let t := lockSignal v s
    (s.lock.state = .engaged ∨ s.lock.state = .free →
      faultRecord .lockSlip t =
        takenRecord (severity .lockSlip s) (decide (engaged ↔ s.lock.state = .free)) (faultRecord .lockSlip s))
    ∧ (s.lock.state = .releasing → engaged → t = s)
    ∧ (s.lock.state = .releasing → ¬engaged →
        t.lock.state = .free ∧ t.lock.output = false ∧ t.lock.confirm = none
          ∧ (severity .lockSlip s ≠ 0 → (faultRecord .lockSlip t).active = false)
          ∧ (severity .lockStuck s ≠ 0 → (faultRecord .lockStuck t).active = false))
    ∧ (s.lock.state = .engaging → engaged →
        t.lock.state = .engaged ∧ t.lock.output = true ∧ t.lock.confirm = none
          ∧ (severity .lockSlip s ≠ 0 → (faultRecord .lockSlip t).active = false)
          ∧ (severity .lockNoConfirm s ≠ 0 → (faultRecord .lockNoConfirm t).active = false)
          ∧ (s.lean.mode = .recover → t.lean.mode = .standby))
    ∧ (s.lock.state = .engaging → ¬engaged → t = s)
    ∧ (s.lock.state = .settling → t = s)

/-- A fresh completion report in ENGAGED starts, keeps or stops the release-qualify timer by the release conditions, in
FREE the engage-qualify timer by the settle conditions, in SETTLING it moves the lock to FREE or ENGAGING or leaves it;
in RELEASING and ENGAGING it changes nothing. A stale report stops both qualify timers and moves nothing. In ENGAGED with
the mode RECOVER a report of either sort hands the lock back: the mode becomes STANDBY. -/
def Obligations.CompletionReportFollowsTheLockState : Prop :=
  (∀ (speed lean : Int) (s : State),
     let hold := s.lean.mode = .active ∧ (releaseSpeed s : Int) ≤ magnitude speed
       ∧ magnitude lean ≤ (uprightWin s : Int)
       ∧ ∀ k, (faultRecord k s).latched = true → severity k s < 3
     (¬hold → reportEngaged speed lean s = { s with lock := { s.lock with releaseQualify := none } })
     ∧ (hold → releaseDelay s ≠ 0 → s.lock.releaseQualify = none →
         reportEngaged speed lean s = { s with lock := { s.lock with releaseQualify := some (releaseDelay s) } })
     ∧ (hold → releaseDelay s ≠ 0 → s.lock.releaseQualify ≠ none → reportEngaged speed lean s = s)
     ∧ (hold → releaseDelay s = 0 →
         reportEngaged speed lean s =
           { s with
             lock :=
               { s.lock with
                 state := .releasing, output := false, releaseQualify := none, confirm := some (confirmTime s) } }))
  ∧ ∀ (speed lean : Int) (s : State),
      let back := fun u : State =>
        if s.lock.state = .engaged ∧ s.lean.mode = .recover then { u with lean := { u.lean with mode := .standby } } else u
      let settle := magnitude speed < (engageSpeed s : Int)
        ∨ (s.lean.mode ≠ .active ∧ magnitude speed < (releaseSpeed s : Int))
      let fresh := completionReport speed lean false s
      completionReport speed lean true s =
          back { s with lock := { s.lock with releaseQualify := none, engageQualify := none } }
      ∧ (s.lock.state = .releasing ∨ s.lock.state = .engaging → fresh = s)
      ∧ (s.lock.state = .engaged → fresh = back (reportEngaged speed lean s))
      ∧ (s.lock.state = .free →
          (¬settle → fresh = { s with lock := { s.lock with engageQualify := none } })
          ∧ (settle → engageDelay s ≠ 0 → s.lock.engageQualify = none →
              fresh = { s with lock := { s.lock with engageQualify := some (engageDelay s) } })
          ∧ (settle → engageDelay s ≠ 0 → s.lock.engageQualify ≠ none → fresh = s)
          ∧ (settle → engageDelay s = 0 →
              fresh = { s with lock := { s.lock with state := .settling, output := false, engageQualify := none } }))
      ∧ (s.lock.state = .settling →
          (s.lean.mode = .active → (releaseSpeed s : Int) ≤ magnitude speed →
            fresh = { s with lock := { s.lock with state := .free, output := false, engageQualify := none } })
          ∧ (¬(s.lean.mode = .active ∧ (releaseSpeed s : Int) ≤ magnitude speed) →
              (magnitude lean ≤ (uprightWin s : Int) →
                fresh =
                  { s with lock := { s.lock with state := .engaging, output := true, confirm := some (confirmTime s) } })
              ∧ ((uprightWin s : Int) < magnitude lean → fresh = s)))

/-- The end of ACTIVE stops the release-qualify timer in ENGAGED, returns RELEASING to ENGAGED with LOCK asserted and
the confirm timer stopped, and changes nothing in the other lock states. -/
def Obligations.LeavingActiveReturnsARelease : Prop :=
  ∀ s : State,
    (s.lock.state = .engaged → lockModeLeft s = { s with lock := { s.lock with releaseQualify := none } })
    ∧ (s.lock.state = .releasing →
        lockModeLeft s = { s with lock := { s.lock with state := .engaged, output := true, confirm := none } })
    ∧ (s.lock.state = .free ∨ s.lock.state = .settling ∨ s.lock.state = .engaging → lockModeLeft s = s)

/-! ## The fault monitor and the supply watch -/

/-- A report leaves the record that its severity, the report and the record before give, and touches no other kind's
record but those of EXCURSION and POOL_EXHAUSTED, which have their own reports along the way. -/
def Obligations.ReportLeavesTheTabledRecord : Prop :=
  ∀ (k : FaultKind) (active : Bool) (s : State), reportedAlong k = false →
    faultRecord k (report k active s) = takenRecord (severity k s) active (faultRecord k s)
      ∧ (∀ j, j ≠ k → reportedAlong j = false → faultRecord j (report k active s) = faultRecord j s)
      ∧ ReactionOnly s (report k active s)

/-- A kind of severity 2 or 3 that becomes active moves ACTIVE to RECOVER and no other mode; EXCURSION is reported
inactive on the move, and the lock then stands as a mode leaving ACTIVE leaves it. A kind of severity 1 leaves the mode alone when no other kind is reported along. -/
def Obligations.GraveReportLeavesActive : Prop :=
  ∀ (k : FaultKind) (s : State), severity k s ≠ 0 → (faultRecord k s).active = false →
    (2 ≤ severity k s → s.lean.mode = .active →
      (report k true s).lean.mode = .recover
        ∧ (k ≠ .excursion →
            faultRecord .excursion (report k true s) =
              takenRecord (severity .excursion s) false (faultRecord .excursion s))
        ∧ (LockFollowsMode s → (report k true s).lock = lockAfterLeaving s.lock))
    ∧ (s.lean.mode ≠ .active → (report k true s).lean.mode = s.lean.mode)
    ∧ (severity k s = 1 → severity .poolExhausted s ≤ 1 → (report k true s).lean.mode = s.lean.mode)

/-- A report that changes a kind of STATUS_MASK sets status-wanted: with no status frame in hand and none wanted a frame
is originated in the FREE buffer with the lowest token, or waits for a release with POOL_EXHAUSTED reported when none is
FREE. A report of a kind outside the mask leaves status-wanted and the frame in hand alone, unless on leaving ACTIVE it
brings along a change of EXCURSION within the mask; a report that changes nothing has no effect. -/
def Obligations.FlagChangesWantAStatusFrame : Prop :=
  ∀ (k : FaultKind) (active : Bool) (s : State),
    let t := report k active s
    let changes := severity k s ≠ 0 ∧ (faultRecord k s).active ≠ active
    let alone := severity k s ≤ 1 ∨ s.lean.mode ≠ .active ∨ inStatusMask .excursion s = false
      ∨ severity .excursion s = 0 ∨ (faultRecord .excursion s).active = false
    (¬changes → t = s)
    ∧ (changes → reportedAlong k = false → inStatusMask k s = true →
        StatusWantedFrom s t
          ∧ (s.monitor.statusWanted = false → s.monitor.statusInHand = none → lowestFree s = none →
              faultRecord .poolExhausted t =
                takenRecord (severity .poolExhausted s) true (faultRecord .poolExhausted s)))
    ∧ (inStatusMask k s = false → active = false →
        t = { s with monitor := { s.monitor with faults := t.monitor.faults } })
    ∧ (inStatusMask k s = false → active = true → alone →
        t =
          { s with
            lean := { s.lean with mode := t.lean.mode }
            lock := t.lock
            monitor := { s.monitor with faults := t.monitor.faults, alert := t.monitor.alert } })

/-- An origin claim takes the FREE buffer with the lowest token as HELD and reports POOL_EXHAUSTED inactive; a refused
one changes no buffer and reports it active. The first clause asks for a second FREE buffer, which the status frame of
the report may need, and for a FREE buffer that stands in no queue (EveryStepKeepsThePoolAccounted). A release tells the
fault monitor when the release-notice flag is set, and clears the flag. -/
def Obligations.OriginClaimsAndReleasesAreTold : Prop :=
  ∀ (b : Token) (s : State),
    (lowestFree s = some b → b ∉ queuedTokens s →
      (claimOrigin s).1 = some b
        ∧ buffer b (claimOrigin s).2 =
            { state := .held, arrival := s.now, arrivalPort := none, egress := none, retainer := none, bytes := [] }
        ∧ (2 ≤ freeCount s →
            faultRecord .poolExhausted (claimOrigin s).2 =
              takenRecord (severity .poolExhausted s) false (faultRecord .poolExhausted s)))
    ∧ (lowestFree s = none →
        (claimOrigin s).1 = none ∧ (claimOrigin s).2.pool.buffers = s.pool.buffers
          ∧ faultRecord .poolExhausted (claimOrigin s).2 =
              takenRecord (severity .poolExhausted s) true (faultRecord .poolExhausted s))
    ∧ buffer b (releaseBuffer b s) = Buffer.empty ∧ (∀ c, c ≠ b → buffer c (releaseBuffer b s) = buffer c s)
    ∧ (releaseBuffer b s).pool.releaseNotice = false
    ∧ (releaseBuffer b s).monitor = { s.monitor with retryDue := s.monitor.retryDue || s.pool.releaseNotice }

/-- A supply that falls below 4.55 V in NORMAL makes the watch LOW and SUPPLY_LOW active; one that rises above 4.70 V in
LOW makes it NORMAL and SUPPLY_LOW inactive; otherwise nothing changes. -/
def Obligations.SupplyCrossingsAreReported : Prop :=
  ∀ s : State, inReset s = false →
    (s.monitor.supplyLow = false →
      (∃ t, exec .supplyLow s = .next t ∧ t.monitor.supplyLow = true
        ∧ faultRecord .supplyLow t = takenRecord (severity .supplyLow s) true (faultRecord .supplyLow s)
        ∧ ReactionOnly { s with monitor := { s.monitor with supplyLow := true } } t)
      ∧ exec .supplyRestored s = .next s)
    ∧ (s.monitor.supplyLow = true →
        (∃ t, exec .supplyRestored s = .next t ∧ t.monitor.supplyLow = false
          ∧ faultRecord .supplyLow t = takenRecord (severity .supplyLow s) false (faultRecord .supplyLow s)
          ∧ ReactionOnly { s with monitor := { s.monitor with supplyLow := false } } t)
        ∧ exec .supplyLow s = .next s)

/-- A told release, with status-wanted set and no status frame in hand, and an expiry of the status interval timer,
which starts the timer again, originate a status frame in the FREE buffer with the lowest token: its header is written,
it is QUEUED on cockpit PRIORITY or in transmission there, and POOL_EXHAUSTED is reported inactive. With no buffer FREE
the claim is refused: POOL_EXHAUSTED is reported active, status-wanted stays set, and the pool is asked for a notice of
its next release. That a FREE buffer stands in no queue is kept by EveryStepKeepsThePoolAccounted. -/
def Obligations.StatusFrameIsOriginatedOrWaits : Prop :=
  ∀ s : State, inReset s = false → s.monitor.statusInHand = none →
    let restarted := { s with monitor := { s.monitor with interval := startUnlessZero (statusInterval s) } }
    let refused := fun t : State =>
      t.monitor.statusInHand = none ∧ t.monitor.statusSeq = s.monitor.statusSeq ∧ t.monitor.statusWanted = true
        ∧ t.pool.releaseNotice = true ∧ t.pool.buffers = s.pool.buffers
        ∧ faultRecord .poolExhausted t = takenRecord (severity .poolExhausted s) true (faultRecord .poolExhausted s)
    (s.monitor.retryDue = true → s.monitor.statusWanted = true →
      ∃ t, exec .statusClaimRetry s = .next t ∧ ReactionOnly s t
        ∧ (∀ b, lowestFree s = some b → b ∉ queuedTokens s → StatusLaunched b s t)
        ∧ (lowestFree s = none → refused t ∧ t.monitor.retryDue = false))
    ∧ (s.monitor.interval = some 0 → s.monitor.statusWanted = false →
        ∃ t, exec .statusIntervalExpiry s = .next t ∧ ReactionOnly restarted t
          ∧ (∀ b, lowestFree s = some b → b ∉ queuedTokens s → StatusLaunched b s t)
          ∧ (lowestFree s = none → refused t))

/-! ## Management -/

/-- A reply is built from the request, its request buffer released, and its buffer put on PRIORITY of the request's
port; it is counted by its result, and an answer is the reply followed by the beginning of the next request. The
premises on the reply buffer say that it is held for this reply alone: they follow from what
EveryStepKeepsThePoolAccounted keeps. A request in hand that is too short, has no known code, or lacks its arguments is
answered BAD_REQUEST with no data. -/
def Obligations.RequestsAreAnsweredAndMalformedOnesRefused : Prop :=
  (∀ (rq : RequestInHand) (r : Result) (data : List Byte) (s : State),
     rq.request ≠ rq.reply → s.monitor.statusInHand ≠ some rq.reply →
     rq.reply ∉ (s.tx.get rq.port).transit →
     let t := queueReply rq r data s
     let frame := (buffer rq.request s).bytes
     (buffer rq.reply t).bytes =
         buildFrame 6 (managementStream s.node) (frameSeq frame)
           ([byteAt (framePayload frame) 0, byteAt (framePayload frame) 1, resultCode r]
             ++ if r = .done then data else [])
       ∧ ((buffer rq.reply t).state = .queued ∨ (buffer rq.reply t).state = .sending)
       ∧ ((s.tx.get rq.port).sending ≠ none →
           (t.tx.get rq.port).priority = (s.tx.get rq.port).priority ++ [rq.reply]
             ∧ buffer rq.request t = Buffer.empty)
       ∧ t.agent.counters =
           (if r = .done then { s.agent.counters with repliesDone := bump s.agent.counters.repliesDone }
           else { s.agent.counters with repliesRefused := bump s.agent.counters.repliesRefused }))
  ∧ (∀ (rq : RequestInHand) (r : Result) (data : List Byte) (s : State),
       s.agent.inHand = some rq → answer r data s = nextRequest (queueReply rq r data s))
  ∧ ∀ (rq : RequestInHand) (s : State), inReset s = false → s.agent.inHand = some rq →
      let payload := framePayload (buffer rq.request s).bytes
      (payload.length < 2 ∨ readRequestCode (byteAt payload 1) = none
          ∨ (∃ c, readRequestCode (byteAt payload 1) = some c ∧ payload.length < neededLength c payload)) →
      exec .malformedRequest s = .next (answer .badRequest [] s)

/-- A request to self joins the tail of the list and is counted; with none in hand the request at the head is begun. A
begun request leaves the list and is in hand with the FREE buffer of the lowest token for its reply. With no buffer
FREE it is dropped: its buffer is released, it is counted, and the next one in the list is begun. -/
def Obligations.RequestsAreListedBegunAndDropped : Prop :=
  (∀ (b : Token) (p : Port) (s : State),
    let listed :=
      { s with
        agent :=
          { s.agent with
            requests := s.agent.requests ++ [{ buffer := b, port := p }]
            counters := { s.agent.counters with received := bump s.agent.counters.received } } }
    (s.agent.inHand ≠ none → takeRequest b p s = listed)
    ∧ (s.agent.inHand = none → takeRequest b p s = nextRequest listed))
  ∧ (∀ s : State, s.agent.requests = [] →
      nextRequest s = { s with agent := { s.agent with inHand := none } })
  ∧ ∀ (r : Request) (rest : List Request) (s : State), s.agent.requests = r :: rest →
      let u := { s with agent := { s.agent with requests := rest, inHand := none } }
      (∀ b, lowestFree s = some b →
        (nextRequest s).agent =
            { s.agent with requests := rest, inHand := some { request := r.buffer, reply := b, port := r.port } }
          ∧ RequestOnly s (nextRequest s))
      ∧ (lowestFree s = none →
          let dropped := dropRequest r.buffer (claimOrigin u).2
          nextRequest s = nextRequest dropped
            ∧ buffer r.buffer dropped = Buffer.empty
            ∧ dropped.agent =
                { u.agent with counters := { u.agent.counters with dropped := bump u.agent.counters.dropped } })

/-- READ_STATE is answered DONE with the state record as it stands, READ_ENTRY with the entry in force, BAD_TABLE or
BAD_INDEX. -/
def Obligations.ReadsAnswerWhatIsInForce : Prop :=
  ∀ (payload : List Byte) (s : State), inReset s = false →
    (requestInHand .readState s = some payload → exec .readState s = .next (answer .done (stateRecord s) s))
    ∧ (requestInHand .readEntry s = some payload → 4 ≤ payload.length →
        (∀ i : Fin 24, byteAt payload 2 = 1 → (byteAt payload 3).toNat = i.val →
          exec .readEntry s =
            .next (answer .done ([1, byteAt payload 3] ++ streamBytes (look s.classifier.table i)) s))
        ∧ (∀ i : Fin 16, byteAt payload 2 = 2 → (byteAt payload 3).toNat = i.val →
          exec .readEntry s =
            .next
              (answer .done
                ([2, byteAt payload 3] ++ (channelBytes (look s.channels.table i) ++ recordBytes (look s.channels.records i)))
                s))
        ∧ (∀ i : Fin 12, byteAt payload 2 = 3 → (byteAt payload 3).toNat = i.val →
          exec .readEntry s = .next (answer .done ([3, byteAt payload 3] ++ rowBytes (look s.envelope.rows i)) s))
        ∧ (∀ i : Fin 44, byteAt payload 2 = 4 → (byteAt payload 3).toNat = i.val →
          exec .readEntry s = .next (answer .done ([4, byteAt payload 3] ++ wordBytes (look s.agent.params i)) s))
        ∧ ((byteAt payload 2).toNat = 0 ∨ 5 ≤ (byteAt payload 2).toNat →
          exec .readEntry s = .next (answer .badTable [] s))
        ∧ (∀ n, readTable (byteAt payload 2) = some n → tableSize n ≤ (byteAt payload 3).toNat →
          exec .readEntry s = .next (answer .badIndex [] s)))

/-- STAGE_ENTRY is judged in order for each of the four tables: BUSY, BAD_TABLE, BAD_INDEX, BAD_VALUE, STAGE_CONFLICT,
replacement, STAGE_FULL, addition. DISCARD_STAGE is answered BUSY while a commit is pending, and otherwise empties the
stage and is answered DONE. -/
def Obligations.StageRequestsAreJudgedInOrder : Prop :=
  (∀ (payload : List Byte) (s : State),
     inReset s = false → requestInHand .stageEntry s = some payload → neededLength .stageEntry payload ≤ payload.length →
     let table := byteAt payload 2
     let index := byteAt payload 3
     let content := payload.drop 4
     (s.agent.pendingCommit.isSome = true → exec .stageEntry s = .next (answer .busy [] s))
     ∧ (s.agent.pendingCommit = none →
         (readTable table = none → exec .stageEntry s = .next (answer .badTable [] s))
         ∧ (table = 1 →
             StageEntryAnswered (stagedStreams s.agent.stage) index (fun _ => readStreamEntry content) .stream s)
         ∧ (table = 2 →
             StageEntryAnswered (stagedChannels s.agent.stage) index (fun _ => readChannelEntry content) .channel s)
         ∧ (table = 3 →
             StageEntryAnswered (stagedRows s.agent.stage) index (fun _ => readEnvelopeRow content) .envelope s)
         ∧ (table = 4 →
             StageEntryAnswered (stagedParams s.agent.stage) index
               (fun i => if paramInRange i (wordAt payload 4) then some (wordAt payload 4) else none) .param s)))
  ∧ ∀ (payload : List Byte) (s : State), inReset s = false → requestInHand .discardStage s = some payload →
      (s.agent.pendingCommit.isSome = true → exec .discardStage s = .next (answer .busy [] s))
      ∧ (s.agent.pendingCommit = none →
          exec .discardStage s = .next (answer .done [] { s with agent := { s.agent with stage := .empty } }))

/-- COMMIT is judged in order for each of the four tables: BUSY, BAD_TABLE, STAGE_EMPTY, STAGE_CONFLICT, BAD_CHECK,
BAD_VALUE, REFUSED_MODE, and else the application: STREAM, CHANNEL and PARAM are applied and answered DONE, ENVELOPE is
applied or held. In ACTIVE and RECOVER a PARAM commit is refused, and a CHANNEL commit whose stage touches a channel that
holds or would hold a required role. -/
def Obligations.CommitIsJudgedInOrder : Prop :=
  ∀ (payload : List Byte) (s : State), inReset s = false → requestInHand .commit s = some payload → 5 ≤ payload.length →
    let check := wordAt payload 3
    let control := s.lean.mode = .active ∨ s.lean.mode = .recover
    (s.agent.pendingCommit.isSome = true → exec .commit s = .next (answer .busy [] s))
    ∧ (s.agent.pendingCommit = none →
        (readTable (byteAt payload 2) = none → exec .commit s = .next (answer .badTable [] s))
        ∧ (∀ n, readTable (byteAt payload 2) = some n →
            (s.agent.stage = .empty → exec .commit s = .next (answer .stageEmpty [] s))
            ∧ (s.agent.stage ≠ .empty → stageCode s.agent.stage ≠ byteAt payload 2 →
                exec .commit s = .next (answer .stageConflict [] s)))
        ∧ (∀ es, byteAt payload 2 = 1 → s.agent.stage = .stream es →
            let table := overlay s.classifier.table es
            CommitAnswered (tableSum streamBytes table) check (streamTableValid table) False
              (answer .done [] (applyStream es s)) s)
        ∧ (∀ es, byteAt payload 2 = 2 → s.agent.stage = .channel es →
            let table := overlay s.channels.table es
            CommitAnswered (tableSum channelBytes table) check (channelTableValid table)
              (control ∧ ∃ e ∈ es, isRequired (look s.channels.table e.1).role = true ∨ isRequired e.2.role = true)
              (answer .done [] (applyChannel es s)) s)
        ∧ (∀ es, byteAt payload 2 = 3 → s.agent.stage = .envelope es →
            let table := overlay s.envelope.rows es
            CommitAnswered (tableSum rowBytes table) check (envelopeValid table) False (finishEnvelope es s) s)
        ∧ ∀ es, byteAt payload 2 = 4 → s.agent.stage = .param es →
            let table := overlay s.agent.params es
            CommitAnswered (tableSum wordBytes table) check (paramTableValid table) control
              (answer .done [] (applyParam es s)) s)

/-- The application of a STREAM commit puts each staged entry in force, empties the stage, is counted, and ends open
mode, with BRIDGE becoming STANDBY, exactly when the stage holds index 0. The application of a CHANNEL commit puts its
table in force and rebinds exactly the channels whose entry changes, keeping every counter; each stale condition is
reported inactive, unless one enabled channel holds the role before and after, is not rebound and is stale. -/
def Obligations.ApplicationPutsTheStagedEntriesInForce : Prop :=
  (∀ (es : List (Fin 24 × StreamEntry)) (s : State),
    (es.map fun e => e.1.val).Pairwise (· < ·) →
    let t := applyStream es s
    (∀ e, e ∈ es → look t.classifier.table e.1 = e.2)
      ∧ (∀ i, stageHolds es i = false → look t.classifier.table i = look s.classifier.table i)
      ∧ t.agent.stage = .empty
      ∧ t.agent.counters.commitsApplied = bump s.agent.counters.commitsApplied
      ∧ t.classifier.openMode = (s.classifier.openMode && !stageHolds es 0)
      ∧ t.lean.mode =
          (if s.classifier.openMode = true ∧ stageHolds es 0 = true ∧ s.lean.mode = .bridge then .standby
          else s.lean.mode))
  ∧ ∀ (es : List (Fin 16 × ChannelEntry)) (c : Channel) (s : State),
      let t := applyChannel es s
      let old := look s.channels.table c
      let new := look t.channels.table c
      let r := look s.channels.records c
      t.channels.table = overlay s.channels.table es
        ∧ (new = old → look t.channels.records c = r)
        ∧ (new ≠ old →
            look t.channels.records c =
              { r with
                value := none, lastSeq := none, stale := false,
                timer := if new.enabled then some new.freshness.toNat else none })
        ∧ t.agent.stage = .empty
        ∧ t.agent.counters.commitsApplied = bump s.agent.counters.commitsApplied
        ∧ ∀ (role : Role) (k : FaultKind), staleKind role = some k →
            let kept := ∃ h, holderOf s.channels.table role = some h ∧ holderOf t.channels.table role = some h
              ∧ look t.channels.table h = look s.channels.table h ∧ (look s.channels.records h).stale = true
            (kept → faultRecord k t = faultRecord k s)
              ∧ (¬kept → faultRecord k t = takenRecord (severity k s) false (faultRecord k s))

/-- The application of a PARAM commit puts the staged values in force and reaches every owner: miss counts 0, quiet
timers and status interval timer restarted, kinds of severity 0 at their reset records, and ALERT judged. When a flag of
a kind in STATUS_MASK has changed by it, status-wanted is set, and a status frame originated or waiting for a release
when none was wanted or in hand; when none has, nothing is wanted. The records of EXCURSION and POOL_EXHAUSTED may change
again by a report of that origination. -/
def Obligations.ParamApplicationReachesEveryOwner : Prop :=
  ∀ (es : List (Fin 44 × Word)) (s : State),
    let t := applyParam es s
    let changed := ∃ k, severity k t = 0 ∧ inStatusMask k t = true
      ∧ ((faultRecord k s).active = true ∨ (faultRecord k s).latched = true)
    t.agent.params = overlay s.agent.params es ∧ t.agent.stage = .empty
      ∧ t.agent.counters.commitsApplied = bump s.agent.counters.commitsApplied
      ∧ (∀ d, t.drives.get d = { s.drives.get d with misses := 0, timer := (t.drives.get d).timer })
      ∧ (∀ p, t.rx.get p = { s.rx.get p with quiet := startUnlessZero (quietTime t) })
      ∧ t.monitor.interval = startUnlessZero (statusInterval t)
      ∧ (∀ k, severity k t = 0 → faultRecord k t = FaultRecord.atReset)
      ∧ (∀ k, severity k t ≠ 0 → reportedAlong k = false → faultRecord k t = faultRecord k s)
      ∧ t.monitor.quietPorts =
          (if severity .linkQuiet t = 0 then { cockpit := false, chassis := false } else s.monitor.quietPorts)
      ∧ t.monitor.alert = alertWanted t
      ∧ (changed →
          StatusWantedFrom s t
            ∧ (s.monitor.statusWanted = false → s.monitor.statusInHand = none → lowestFree s = none →
                severity .poolExhausted t ≠ 0 →
                faultRecord .poolExhausted t =
                  takenRecord (severity .poolExhausted t) true (faultRecord .poolExhausted s)))
      ∧ (¬changed →
          t.monitor.statusWanted = s.monitor.statusWanted ∧ t.monitor.statusInHand = s.monitor.statusInHand)
      ∧ t.channels = s.channels ∧ t.classifier = s.classifier ∧ t.envelope = s.envelope ∧ t.shaper = s.shaper
      ∧ t.node = s.node ∧ t.resets = s.resets

/-- An ENVELOPE commit is applied at once with no cycle in flight: rows in force, flag set, row and last shaped value
gone, stage empty, counted and answered DONE; with a cycle in flight it is held with its reply buffer, the request buffer
is released, the next request begun, and no table changes. At the completion of that cycle it is applied
and counted, and its DONE reply is built with the recorded tag and sequence on PRIORITY of the recorded port; for the
reply the pool is accounted for, as EveryStepKeepsThePoolAccounted keeps it. -/
def Obligations.EnvelopeCommitIsAppliedOrHeld : Prop :=
  (∀ (rq : RequestInHand) (es : List (Fin 12 × EnvelopeRow)) (s : State),
     s.agent.inHand = some rq → s.agent.stage = .envelope es → s.agent.pendingCommit = none →
     let t := finishEnvelope es s
     let record : CommitPending :=
       { reply := rq.reply, port := rq.port, tag := byteAt (framePayload (buffer rq.request s).bytes) 0,
         seq := frameSeq (buffer rq.request s).bytes }
     let released := releaseBuffer rq.request s
     (s.lean.cycle = none →
       t = answer .done [] (applyEnvelope es s)
         ∧ t.agent.counters.commitsApplied = bump s.agent.counters.commitsApplied
         ∧ t.envelope = { rows := overlay s.envelope.rows es, valid := true } ∧ t.lean.row = none
         ∧ t.shaper.last = none ∧ t.agent.stage = .empty ∧ t.agent.pendingCommit = none)
     ∧ (s.lean.cycle ≠ none →
         t = nextRequest { released with agent := { released.agent with pendingCommit := some record } }
           ∧ t.agent.counters.commitsApplied = s.agent.counters.commitsApplied
           ∧ t.envelope = s.envelope ∧ t.lean.row = s.lean.row ∧ t.shaper = s.shaper ∧ t.agent.stage = .envelope es
           ∧ t.agent.pendingCommit = some record))
  ∧ ∀ (c : Cycle) (pc : CommitPending) (es : List (Fin 12 × EnvelopeRow)) (s : State),
      inReset s = false → s.lean.cycle = some c → s.agent.pendingCommit = some pc → s.agent.stage = .envelope es →
      ∃ t, exec .cycleCompletion s = .next t
        ∧ t.envelope = { rows := overlay s.envelope.rows es, valid := true } ∧ t.shaper.last = none
        ∧ (s.lean.pendingAnchor = false → t.lean.row = none)
        ∧ t.agent =
            { s.agent with
              stage := .empty, pendingCommit := none
              counters :=
                { s.agent.counters with
                  commitsApplied := bump s.agent.counters.commitsApplied
                  repliesDone := bump s.agent.counters.repliesDone } }
        ∧ t.lean.counters.deferred = bump s.lean.counters.deferred
        ∧ (PoolAccounted s → StatusFrameTraced s →
            (buffer pc.reply t).bytes = buildFrame 6 (managementStream s.node) pc.seq [pc.tag, 5, resultCode .done]
              ∧ ((pc.reply ∈ (t.tx.get pc.port).priority ∧ (buffer pc.reply t).state = .queued)
                ∨ ((t.tx.get pc.port).sending = some pc.reply ∧ (buffer pc.reply t).state = .sending)))

/-- READ_COUNTERS is answered BAD_VALUE, BAD_INDEX, or DONE with at most 12 counters of the group from the first
position on; CLEAR_COUNTERS is answered BAD_VALUE, or DONE with the group cleared. Clearing a group sets its counters to
0, the occurrence counts of MGMT excepted, and changes no other group and nothing else. -/
def Obligations.CounterRequestsReadAndClear : Prop :=
  (∀ (payload : List Byte) (s : State), inReset s = false →
     (requestInHand .readCounters s = some payload → 4 ≤ payload.length →
       (readGroup (byteAt payload 2) = none → exec .readCounters s = .next (answer .badValue [] s))
       ∧ ∀ g, readGroup (byteAt payload 2) = some g →
           ((groupCounters g s).length ≤ (byteAt payload 3).toNat →
             exec .readCounters s = .next (answer .badIndex [] s))
           ∧ ((byteAt payload 3).toNat < (groupCounters g s).length →
               exec .readCounters s =
                 .next
                   (answer .done
                     ([byteAt payload 2, byteAt payload 3,
                         BitVec.ofNat 8 (min 12 ((groupCounters g s).length - (byteAt payload 3).toNat))]
                       ++ (((groupCounters g s).drop (byteAt payload 3).toNat).take 12).flatMap wordBytes)
                     s)))
     ∧ (requestInHand .clearCounters s = some payload → 3 ≤ payload.length →
         (readGroup (byteAt payload 2) = none → exec .clearCounters s = .next (answer .badValue [] s))
         ∧ ∀ g, readGroup (byteAt payload 2) = some g →
             exec .clearCounters s = .next (answer .done [] (clearGroup g s))))
  ∧ ∀ (g : CounterGroup) (s : State),
      let t := clearGroup g s
      (g ≠ .mgmt → ∀ c, c ∈ groupCounters g t → c = 0)
        ∧ groupCounters .mgmt (clearGroup .mgmt s) = List.replicate 6 0 ++ (groupCounters .mgmt s).drop 6
        ∧ (∀ h, h ≠ g → groupCounters h t = groupCounters h s)
        ∧ OnlyCountersDiffer s t

/-- CLEAR_FAULTS is answered DONE after the FAILED slots, the lock supervisor and the fault table have acted; a FAILED
slot is then IDLE with no misses, the others are as before. The drive-lost kind of a FAILED slot and LOCK_STUCK, where
their severity is not 0, end inactive, unlatched and with count 0, and the lock stays as it was unless a report of
POOL_EXHAUSTED along the way reacts on it. The clearing of the table clears the latch and the count of every inactive
kind and keeps the records of the active ones; ALERT is then judged, and status-wanted set when a latched flag of a kind
in STATUS_MASK has been cleared. The records of EXCURSION and POOL_EXHAUSTED may change again by a report. That the slots act in the order TILT, STEER and before the lock is the
model's choice (notes/assumptions/22.md), and that ALERT is judged once is its reading (notes/assumptions/23.md). -/
def Obligations.ClearFaultsReachesEveryOwner : Prop :=
  ∀ (payload : List Byte) (s : State), inReset s = false → requestInHand .clearFaults s = some payload →
    let cleared := clearTable (clearLock (clearSlot .steer (clearSlot .tilt s)))
    exec .clearFaults s = .next (answer .done [] cleared)
      ∧ (∀ d, let x := s.drives.get d
          let y := cleared.drives.get d
          (x.state = .failed →
              y.state = .idle ∧ y.misses = 0
                ∧ (severity (lostKind d) s ≠ 0 → faultRecord (lostKind d) cleared = FaultRecord.atReset))
            ∧ (x.state ≠ .failed → y = { x with timer := y.timer }))
      ∧ (severity .lockStuck s ≠ 0 → faultRecord .lockStuck cleared = FaultRecord.atReset)
      ∧ (severity .poolExhausted s ≤ 1 → cleared.lock = s.lock)
      ∧ (∀ (k : FaultKind) (u : State), reportedAlong k = false →
          faultRecord k (clearTable u) =
            (if (faultRecord k u).active then faultRecord k u
            else { faultRecord k u with latched := false, occurrences := 0 }))
      ∧ ∀ u : State,
          let unlatched := ∃ k, inStatusMask k u = true ∧ (faultRecord k u).active = false
            ∧ (faultRecord k u).latched = true
          (clearTable u).monitor.alert = alertWanted (clearTable u)
            ∧ (unlatched → StatusWantedFrom u (clearTable u))
            ∧ (¬unlatched →
                (clearTable u).monitor.statusWanted = u.monitor.statusWanted
                  ∧ (clearTable u).monitor.statusInHand = u.monitor.statusInHand)

/-- ENGAGE_CONTROL is judged in order: REFUSED_MODE, NOT_READY, REFUSED_FAULT, and else DONE with the lean law in
ACTIVE, the run count 0 and the cycle timer started. RELEASE_CONTROL is answered DONE with the move to RECOVER in
ACTIVE, on which EXCURSION is reported inactive and the lock is told, DONE with no change in RECOVER and STANDBY, and REFUSED_MODE in BRIDGE; RESET is answered REFUSED_MODE in ACTIVE
and RECOVER. -/
def Obligations.ControlRequestsFollowTheMode : Prop :=
  (∀ (payload : List Byte) (s : State), inReset s = false → requestInHand .engageControl s = some payload →
     let ready := s.envelope.valid = true ∧ (∀ r, isRequired r = true → roleReady r s = true)
       ∧ (s.lean.mode = .standby → s.lock.state = .engaged)
     let clean := ∀ k, (faultRecord k s).latched = true → severity k s < 2
     (s.lean.mode = .bridge ∨ s.lean.mode = .active → exec .engageControl s = .next (answer .refusedMode [] s))
     ∧ (s.lean.mode = .standby ∨ s.lean.mode = .recover →
         (¬ready → exec .engageControl s = .next (answer .notReady [] s))
         ∧ (ready → ¬clean → exec .engageControl s = .next (answer .refusedFault [] s))
         ∧ (ready → clean →
             exec .engageControl s =
               .next
                 (answer .done []
                   { s with
                     lean := { s.lean with mode := .active, excursionRun := 0, timer := some (cycleLimit s) } }))))
  ∧ ∀ (payload : List Byte) (s : State), inReset s = false →
      (requestInHand .releaseControl s = some payload →
        (s.lean.mode = .active →
          exec .releaseControl s = .next (answer .done [] (moveToRecover s))
            ∧ (moveToRecover s).lean.mode = .recover
            ∧ faultRecord .excursion (moveToRecover s) =
                takenRecord (severity .excursion s) false (faultRecord .excursion s)
            ∧ (LockFollowsMode s → (moveToRecover s).lock = lockAfterLeaving s.lock))
        ∧ (s.lean.mode = .recover ∨ s.lean.mode = .standby → exec .releaseControl s = .next (answer .done [] s))
        ∧ (s.lean.mode = .bridge → exec .releaseControl s = .next (answer .refusedMode [] s)))
      ∧ (requestInHand .reset s = some payload → s.lean.mode = .active ∨ s.lean.mode = .recover →
          exec .reset s = .next (answer .refusedMode [] s))

/-! ## What every step keeps -/

/-- Every step keeps ALERT asserted in reset, and outside reset exactly while a kind of ALERT_MASK is latched. -/
def Obligations.EveryStepKeepsAlert : Prop :=
  ∀ s t : State, AlertRight s → step s = .next t → AlertRight t

/-- Every step keeps it that in ACTIVE no kind of severity 2 or 3 is latched, and that an active kind is latched. -/
def Obligations.EveryStepKeepsActiveClean : Prop :=
  ∀ s t : State, ActiveIsClean s → ActiveImpliesLatched s → step s = .next t →
    ActiveIsClean t ∧ ActiveImpliesLatched t

/-- Every step keeps LOCK asserted in ENGAGED and ENGAGING and negated in the other lock states, the lock ENGAGED in
BRIDGE and STANDBY, and no release under way or waiting outside ACTIVE. -/
def Obligations.EveryStepKeepsTheLock : Prop :=
  ∀ s t : State, LockLineRight s → LockFollowsMode s → step s = .next t → LockLineRight t ∧ LockFollowsMode t

/-- Every step keeps the tables in force within the checks of their commits, the envelope sound with its selected row,
and BRIDGE with open mode. -/
def Obligations.EveryStepKeepsTheTablesSound : Prop :=
  ∀ s t : State, TablesPassChecks s → EnvelopeSound s → BridgeIsOpenMode s → step s = .next t →
    TablesPassChecks t ∧ EnvelopeSound t ∧ BridgeIsOpenMode t

/-- Every step keeps the stage legal, the parameters in range, and the miss counts within MISS_LIMIT. -/
def Obligations.EveryStepKeepsStageParametersAndMisses : Prop :=
  ∀ s t : State, StageLegal s → ParametersLegal s → MissesWithinLimit s → step s = .next t →
    StageLegal t ∧ ParametersLegal t ∧ MissesWithinLimit t

/-- Every step keeps the pool accounted for: each buffer stands once where its state says, retainers and drive slots
agree, and the status frame in hand can be found. -/
def Obligations.EveryStepKeepsThePoolAccounted : Prop :=
  ∀ s t : State, PoolAccounted s → RetainersAgree s → StatusFrameTraced s → step s = .next t →
    PoolAccounted t ∧ RetainersAgree t ∧ StatusFrameTraced t

/-- The state right after reset has everything that every step keeps. -/
def Obligations.ResetHasWhatEveryStepKeeps : Prop :=
  LockLineRight State.reset ∧ AlertRight State.reset ∧ ActiveIsClean State.reset
    ∧ ActiveImpliesLatched State.reset ∧ LockFollowsMode State.reset ∧ TablesPassChecks State.reset
    ∧ EnvelopeSound State.reset ∧ BridgeIsOpenMode State.reset ∧ StageLegal State.reset
    ∧ ParametersLegal State.reset ∧ MissesWithinLimit State.reset
    ∧ PoolAccounted State.reset ∧ RetainersAgree State.reset ∧ StatusFrameTraced State.reset
end

