-- ==== Sys2Proof/Laws/State.lean ====
section
/-! SUPPORT. One lemma for each field of the state and each named update of one block: the field it leaves alone, or
what it puts. -/

namespace Sys2Proof.Machine

@[simp] theorem ports_get_set_same {α : Type} (x : Ports α) (p : Port) (a : α) : (x.set p a).get p = a := by
  cases p <;> rfl

@[simp] theorem ports_get_set_opposite {α : Type} (x : Ports α) (p : Port) (a : α) :
    (x.set p a).get p.opposite = x.get p.opposite := by
  cases p <;> rfl

theorem ports_get_set {α : Type} (x : Ports α) (p q : Port) (a : α) :
    (x.set p a).get q = if p = q then a else x.get q := by
  cases p <;> cases q <;> rfl

@[simp] theorem drives_get_set_same (x : Drives) (d : Drive) (a : DriveSlot) : (x.set d a).get d = a := by
  cases d <;> rfl

theorem drives_get_set (x : Drives) (d e : Drive) (a : DriveSlot) :
    (x.set d a).get e = if d = e then a else x.get e := by
  cases d <;> cases e <;> rfl

@[simp] theorem buffer_putBuffer_same (t : Token) (b : Buffer) (s : State) : buffer t (putBuffer t b s) = b := by
  simp [buffer, putBuffer]

theorem buffer_putBuffer (t u : Token) (b : Buffer) (s : State) :
    buffer u (putBuffer t b s) = if t = u then b else buffer u s := by
  simp [buffer, putBuffer, look_put]

@[simp] theorem faultRecord_putFault_same (k : FaultKind) (r : FaultRecord) (s : State) :
    faultRecord k (putFault k r s) = r := by
  simp [faultRecord, putFault]

theorem faultIndex_injective {j k : FaultKind} (h : faultIndex j = faultIndex k) : j = k := by
  cases j <;> cases k <;> first | rfl | exact absurd h (by decide)

theorem faultRecord_putFault (j k : FaultKind) (r : FaultRecord) (s : State) :
    faultRecord j (putFault k r s) = if k = j then r else faultRecord j s := by
  by_cases h : k = j
  · subst h; simp
  · have : faultIndex k ≠ faultIndex j := fun e => h (faultIndex_injective e)
    simp [faultRecord, putFault, look_put, h, this]

@[simp] theorem setRx_rx (p : Port) (r : Receiver) (s : State) : (setRx p r s).rx = s.rx.set p r := rfl
@[simp] theorem setTx_tx (p : Port) (x : Transmitter) (s : State) : (setTx p x s).tx = s.tx.set p x := rfl
@[simp] theorem setSlot_drives (d : Drive) (x : DriveSlot) (s : State) :
    (setSlot d x s).drives = s.drives.set d x := rfl
@[simp] theorem setStage_stage (x : Stage) (s : State) : (setStage x s).agent.stage = x := rfl
@[simp] theorem judgeAlert_alert (s : State) : (judgeAlert s).monitor.alert = alertWanted s := rfl
@[simp] theorem judgeAlert_faults (s : State) : (judgeAlert s).monitor.faults = s.monitor.faults := rfl
@[simp] theorem setWanted_wanted (s : State) : (setWanted s).monitor.statusWanted = true := rfl
@[simp] theorem setWanted_faults (s : State) : (setWanted s).monitor.faults = s.monitor.faults := rfl
@[simp] theorem setPhase_phase (p : Port) (x : RxPhase) (s : State) : ((setPhase p x s).rx.get p).phase = x := by
  simp [setPhase]

@[simp] theorem putBuffer_pending (t : Token) (b : Buffer) (s : State) : (putBuffer t b s).pending = s.pending := rfl
@[simp] theorem putBuffer_now (t : Token) (b : Buffer) (s : State) : (putBuffer t b s).now = s.now := rfl
@[simp] theorem putBuffer_freeIndex (t : Token) (b : Buffer) (s : State) : (putBuffer t b s).freeIndex = s.freeIndex := rfl
@[simp] theorem putBuffer_resets (t : Token) (b : Buffer) (s : State) : (putBuffer t b s).resets = s.resets := rfl
@[simp] theorem putBuffer_node (t : Token) (b : Buffer) (s : State) : (putBuffer t b s).node = s.node := rfl
@[simp] theorem putBuffer_rx (t : Token) (b : Buffer) (s : State) : (putBuffer t b s).rx = s.rx := rfl
@[simp] theorem putBuffer_tx (t : Token) (b : Buffer) (s : State) : (putBuffer t b s).tx = s.tx := rfl
@[simp] theorem putBuffer_classifier (t : Token) (b : Buffer) (s : State) : (putBuffer t b s).classifier = s.classifier := rfl
@[simp] theorem putBuffer_channels (t : Token) (b : Buffer) (s : State) : (putBuffer t b s).channels = s.channels := rfl
@[simp] theorem putBuffer_envelope (t : Token) (b : Buffer) (s : State) : (putBuffer t b s).envelope = s.envelope := rfl
@[simp] theorem putBuffer_lean (t : Token) (b : Buffer) (s : State) : (putBuffer t b s).lean = s.lean := rfl
@[simp] theorem putBuffer_shaper (t : Token) (b : Buffer) (s : State) : (putBuffer t b s).shaper = s.shaper := rfl
@[simp] theorem putBuffer_drives (t : Token) (b : Buffer) (s : State) : (putBuffer t b s).drives = s.drives := rfl
@[simp] theorem putBuffer_lock (t : Token) (b : Buffer) (s : State) : (putBuffer t b s).lock = s.lock := rfl
@[simp] theorem putBuffer_monitor (t : Token) (b : Buffer) (s : State) : (putBuffer t b s).monitor = s.monitor := rfl
@[simp] theorem putBuffer_agent (t : Token) (b : Buffer) (s : State) : (putBuffer t b s).agent = s.agent := rfl

@[simp] theorem setRx_pending (p : Port) (r : Receiver) (s : State) : (setRx p r s).pending = s.pending := rfl
@[simp] theorem setRx_now (p : Port) (r : Receiver) (s : State) : (setRx p r s).now = s.now := rfl
@[simp] theorem setRx_freeIndex (p : Port) (r : Receiver) (s : State) : (setRx p r s).freeIndex = s.freeIndex := rfl
@[simp] theorem setRx_resets (p : Port) (r : Receiver) (s : State) : (setRx p r s).resets = s.resets := rfl
@[simp] theorem setRx_node (p : Port) (r : Receiver) (s : State) : (setRx p r s).node = s.node := rfl
@[simp] theorem setRx_pool (p : Port) (r : Receiver) (s : State) : (setRx p r s).pool = s.pool := rfl
@[simp] theorem setRx_tx (p : Port) (r : Receiver) (s : State) : (setRx p r s).tx = s.tx := rfl
@[simp] theorem setRx_classifier (p : Port) (r : Receiver) (s : State) : (setRx p r s).classifier = s.classifier := rfl
@[simp] theorem setRx_channels (p : Port) (r : Receiver) (s : State) : (setRx p r s).channels = s.channels := rfl
@[simp] theorem setRx_envelope (p : Port) (r : Receiver) (s : State) : (setRx p r s).envelope = s.envelope := rfl
@[simp] theorem setRx_lean (p : Port) (r : Receiver) (s : State) : (setRx p r s).lean = s.lean := rfl
@[simp] theorem setRx_shaper (p : Port) (r : Receiver) (s : State) : (setRx p r s).shaper = s.shaper := rfl
@[simp] theorem setRx_drives (p : Port) (r : Receiver) (s : State) : (setRx p r s).drives = s.drives := rfl
@[simp] theorem setRx_lock (p : Port) (r : Receiver) (s : State) : (setRx p r s).lock = s.lock := rfl
@[simp] theorem setRx_monitor (p : Port) (r : Receiver) (s : State) : (setRx p r s).monitor = s.monitor := rfl
@[simp] theorem setRx_agent (p : Port) (r : Receiver) (s : State) : (setRx p r s).agent = s.agent := rfl

@[simp] theorem setTx_pending (p : Port) (x : Transmitter) (s : State) : (setTx p x s).pending = s.pending := rfl
@[simp] theorem setTx_now (p : Port) (x : Transmitter) (s : State) : (setTx p x s).now = s.now := rfl
@[simp] theorem setTx_freeIndex (p : Port) (x : Transmitter) (s : State) : (setTx p x s).freeIndex = s.freeIndex := rfl
@[simp] theorem setTx_resets (p : Port) (x : Transmitter) (s : State) : (setTx p x s).resets = s.resets := rfl
@[simp] theorem setTx_node (p : Port) (x : Transmitter) (s : State) : (setTx p x s).node = s.node := rfl
@[simp] theorem setTx_rx (p : Port) (x : Transmitter) (s : State) : (setTx p x s).rx = s.rx := rfl
@[simp] theorem setTx_pool (p : Port) (x : Transmitter) (s : State) : (setTx p x s).pool = s.pool := rfl
@[simp] theorem setTx_classifier (p : Port) (x : Transmitter) (s : State) : (setTx p x s).classifier = s.classifier := rfl
@[simp] theorem setTx_channels (p : Port) (x : Transmitter) (s : State) : (setTx p x s).channels = s.channels := rfl
@[simp] theorem setTx_envelope (p : Port) (x : Transmitter) (s : State) : (setTx p x s).envelope = s.envelope := rfl
@[simp] theorem setTx_lean (p : Port) (x : Transmitter) (s : State) : (setTx p x s).lean = s.lean := rfl
@[simp] theorem setTx_shaper (p : Port) (x : Transmitter) (s : State) : (setTx p x s).shaper = s.shaper := rfl
@[simp] theorem setTx_drives (p : Port) (x : Transmitter) (s : State) : (setTx p x s).drives = s.drives := rfl
@[simp] theorem setTx_lock (p : Port) (x : Transmitter) (s : State) : (setTx p x s).lock = s.lock := rfl
@[simp] theorem setTx_monitor (p : Port) (x : Transmitter) (s : State) : (setTx p x s).monitor = s.monitor := rfl
@[simp] theorem setTx_agent (p : Port) (x : Transmitter) (s : State) : (setTx p x s).agent = s.agent := rfl

@[simp] theorem setSlot_pending (d : Drive) (x : DriveSlot) (s : State) : (setSlot d x s).pending = s.pending := rfl
@[simp] theorem setSlot_now (d : Drive) (x : DriveSlot) (s : State) : (setSlot d x s).now = s.now := rfl
@[simp] theorem setSlot_freeIndex (d : Drive) (x : DriveSlot) (s : State) : (setSlot d x s).freeIndex = s.freeIndex := rfl
@[simp] theorem setSlot_resets (d : Drive) (x : DriveSlot) (s : State) : (setSlot d x s).resets = s.resets := rfl
@[simp] theorem setSlot_node (d : Drive) (x : DriveSlot) (s : State) : (setSlot d x s).node = s.node := rfl
@[simp] theorem setSlot_rx (d : Drive) (x : DriveSlot) (s : State) : (setSlot d x s).rx = s.rx := rfl
@[simp] theorem setSlot_pool (d : Drive) (x : DriveSlot) (s : State) : (setSlot d x s).pool = s.pool := rfl
@[simp] theorem setSlot_tx (d : Drive) (x : DriveSlot) (s : State) : (setSlot d x s).tx = s.tx := rfl
@[simp] theorem setSlot_classifier (d : Drive) (x : DriveSlot) (s : State) : (setSlot d x s).classifier = s.classifier := rfl
@[simp] theorem setSlot_channels (d : Drive) (x : DriveSlot) (s : State) : (setSlot d x s).channels = s.channels := rfl
@[simp] theorem setSlot_envelope (d : Drive) (x : DriveSlot) (s : State) : (setSlot d x s).envelope = s.envelope := rfl
@[simp] theorem setSlot_lean (d : Drive) (x : DriveSlot) (s : State) : (setSlot d x s).lean = s.lean := rfl
@[simp] theorem setSlot_shaper (d : Drive) (x : DriveSlot) (s : State) : (setSlot d x s).shaper = s.shaper := rfl
@[simp] theorem setSlot_lock (d : Drive) (x : DriveSlot) (s : State) : (setSlot d x s).lock = s.lock := rfl
@[simp] theorem setSlot_monitor (d : Drive) (x : DriveSlot) (s : State) : (setSlot d x s).monitor = s.monitor := rfl
@[simp] theorem setSlot_agent (d : Drive) (x : DriveSlot) (s : State) : (setSlot d x s).agent = s.agent := rfl

@[simp] theorem putFault_pending (k : FaultKind) (r : FaultRecord) (s : State) : (putFault k r s).pending = s.pending := rfl
@[simp] theorem putFault_now (k : FaultKind) (r : FaultRecord) (s : State) : (putFault k r s).now = s.now := rfl
@[simp] theorem putFault_freeIndex (k : FaultKind) (r : FaultRecord) (s : State) : (putFault k r s).freeIndex = s.freeIndex := rfl
@[simp] theorem putFault_resets (k : FaultKind) (r : FaultRecord) (s : State) : (putFault k r s).resets = s.resets := rfl
@[simp] theorem putFault_node (k : FaultKind) (r : FaultRecord) (s : State) : (putFault k r s).node = s.node := rfl
@[simp] theorem putFault_rx (k : FaultKind) (r : FaultRecord) (s : State) : (putFault k r s).rx = s.rx := rfl
@[simp] theorem putFault_pool (k : FaultKind) (r : FaultRecord) (s : State) : (putFault k r s).pool = s.pool := rfl
@[simp] theorem putFault_tx (k : FaultKind) (r : FaultRecord) (s : State) : (putFault k r s).tx = s.tx := rfl
@[simp] theorem putFault_classifier (k : FaultKind) (r : FaultRecord) (s : State) : (putFault k r s).classifier = s.classifier := rfl
@[simp] theorem putFault_channels (k : FaultKind) (r : FaultRecord) (s : State) : (putFault k r s).channels = s.channels := rfl
@[simp] theorem putFault_envelope (k : FaultKind) (r : FaultRecord) (s : State) : (putFault k r s).envelope = s.envelope := rfl
@[simp] theorem putFault_lean (k : FaultKind) (r : FaultRecord) (s : State) : (putFault k r s).lean = s.lean := rfl
@[simp] theorem putFault_shaper (k : FaultKind) (r : FaultRecord) (s : State) : (putFault k r s).shaper = s.shaper := rfl
@[simp] theorem putFault_drives (k : FaultKind) (r : FaultRecord) (s : State) : (putFault k r s).drives = s.drives := rfl
@[simp] theorem putFault_lock (k : FaultKind) (r : FaultRecord) (s : State) : (putFault k r s).lock = s.lock := rfl
@[simp] theorem putFault_agent (k : FaultKind) (r : FaultRecord) (s : State) : (putFault k r s).agent = s.agent := rfl

@[simp] theorem putRecord_pending (c : Channel) (r : ChannelRecord) (s : State) : (putRecord c r s).pending = s.pending := rfl
@[simp] theorem putRecord_now (c : Channel) (r : ChannelRecord) (s : State) : (putRecord c r s).now = s.now := rfl
@[simp] theorem putRecord_freeIndex (c : Channel) (r : ChannelRecord) (s : State) : (putRecord c r s).freeIndex = s.freeIndex := rfl
@[simp] theorem putRecord_resets (c : Channel) (r : ChannelRecord) (s : State) : (putRecord c r s).resets = s.resets := rfl
@[simp] theorem putRecord_node (c : Channel) (r : ChannelRecord) (s : State) : (putRecord c r s).node = s.node := rfl
@[simp] theorem putRecord_rx (c : Channel) (r : ChannelRecord) (s : State) : (putRecord c r s).rx = s.rx := rfl
@[simp] theorem putRecord_pool (c : Channel) (r : ChannelRecord) (s : State) : (putRecord c r s).pool = s.pool := rfl
@[simp] theorem putRecord_tx (c : Channel) (r : ChannelRecord) (s : State) : (putRecord c r s).tx = s.tx := rfl
@[simp] theorem putRecord_classifier (c : Channel) (r : ChannelRecord) (s : State) : (putRecord c r s).classifier = s.classifier := rfl
@[simp] theorem putRecord_envelope (c : Channel) (r : ChannelRecord) (s : State) : (putRecord c r s).envelope = s.envelope := rfl
@[simp] theorem putRecord_lean (c : Channel) (r : ChannelRecord) (s : State) : (putRecord c r s).lean = s.lean := rfl
@[simp] theorem putRecord_shaper (c : Channel) (r : ChannelRecord) (s : State) : (putRecord c r s).shaper = s.shaper := rfl
@[simp] theorem putRecord_drives (c : Channel) (r : ChannelRecord) (s : State) : (putRecord c r s).drives = s.drives := rfl
@[simp] theorem putRecord_lock (c : Channel) (r : ChannelRecord) (s : State) : (putRecord c r s).lock = s.lock := rfl
@[simp] theorem putRecord_monitor (c : Channel) (r : ChannelRecord) (s : State) : (putRecord c r s).monitor = s.monitor := rfl
@[simp] theorem putRecord_agent (c : Channel) (r : ChannelRecord) (s : State) : (putRecord c r s).agent = s.agent := rfl

@[simp] theorem setLeanCounters_pending (f : LeanCounters → LeanCounters) (s : State) : (setLeanCounters f s).pending = s.pending := rfl
@[simp] theorem setLeanCounters_now (f : LeanCounters → LeanCounters) (s : State) : (setLeanCounters f s).now = s.now := rfl
@[simp] theorem setLeanCounters_freeIndex (f : LeanCounters → LeanCounters) (s : State) : (setLeanCounters f s).freeIndex = s.freeIndex := rfl
@[simp] theorem setLeanCounters_resets (f : LeanCounters → LeanCounters) (s : State) : (setLeanCounters f s).resets = s.resets := rfl
@[simp] theorem setLeanCounters_node (f : LeanCounters → LeanCounters) (s : State) : (setLeanCounters f s).node = s.node := rfl
@[simp] theorem setLeanCounters_rx (f : LeanCounters → LeanCounters) (s : State) : (setLeanCounters f s).rx = s.rx := rfl
@[simp] theorem setLeanCounters_pool (f : LeanCounters → LeanCounters) (s : State) : (setLeanCounters f s).pool = s.pool := rfl
@[simp] theorem setLeanCounters_tx (f : LeanCounters → LeanCounters) (s : State) : (setLeanCounters f s).tx = s.tx := rfl
@[simp] theorem setLeanCounters_classifier (f : LeanCounters → LeanCounters) (s : State) : (setLeanCounters f s).classifier = s.classifier := rfl
@[simp] theorem setLeanCounters_channels (f : LeanCounters → LeanCounters) (s : State) : (setLeanCounters f s).channels = s.channels := rfl
@[simp] theorem setLeanCounters_envelope (f : LeanCounters → LeanCounters) (s : State) : (setLeanCounters f s).envelope = s.envelope := rfl
@[simp] theorem setLeanCounters_shaper (f : LeanCounters → LeanCounters) (s : State) : (setLeanCounters f s).shaper = s.shaper := rfl
@[simp] theorem setLeanCounters_drives (f : LeanCounters → LeanCounters) (s : State) : (setLeanCounters f s).drives = s.drives := rfl
@[simp] theorem setLeanCounters_lock (f : LeanCounters → LeanCounters) (s : State) : (setLeanCounters f s).lock = s.lock := rfl
@[simp] theorem setLeanCounters_monitor (f : LeanCounters → LeanCounters) (s : State) : (setLeanCounters f s).monitor = s.monitor := rfl
@[simp] theorem setLeanCounters_agent (f : LeanCounters → LeanCounters) (s : State) : (setLeanCounters f s).agent = s.agent := rfl

@[simp] theorem setAgentCounters_pending (f : AgentCounters → AgentCounters) (s : State) : (setAgentCounters f s).pending = s.pending := rfl
@[simp] theorem setAgentCounters_now (f : AgentCounters → AgentCounters) (s : State) : (setAgentCounters f s).now = s.now := rfl
@[simp] theorem setAgentCounters_freeIndex (f : AgentCounters → AgentCounters) (s : State) : (setAgentCounters f s).freeIndex = s.freeIndex := rfl
@[simp] theorem setAgentCounters_resets (f : AgentCounters → AgentCounters) (s : State) : (setAgentCounters f s).resets = s.resets := rfl
@[simp] theorem setAgentCounters_node (f : AgentCounters → AgentCounters) (s : State) : (setAgentCounters f s).node = s.node := rfl
@[simp] theorem setAgentCounters_rx (f : AgentCounters → AgentCounters) (s : State) : (setAgentCounters f s).rx = s.rx := rfl
@[simp] theorem setAgentCounters_pool (f : AgentCounters → AgentCounters) (s : State) : (setAgentCounters f s).pool = s.pool := rfl
@[simp] theorem setAgentCounters_tx (f : AgentCounters → AgentCounters) (s : State) : (setAgentCounters f s).tx = s.tx := rfl
@[simp] theorem setAgentCounters_classifier (f : AgentCounters → AgentCounters) (s : State) : (setAgentCounters f s).classifier = s.classifier := rfl
@[simp] theorem setAgentCounters_channels (f : AgentCounters → AgentCounters) (s : State) : (setAgentCounters f s).channels = s.channels := rfl
@[simp] theorem setAgentCounters_envelope (f : AgentCounters → AgentCounters) (s : State) : (setAgentCounters f s).envelope = s.envelope := rfl
@[simp] theorem setAgentCounters_lean (f : AgentCounters → AgentCounters) (s : State) : (setAgentCounters f s).lean = s.lean := rfl
@[simp] theorem setAgentCounters_shaper (f : AgentCounters → AgentCounters) (s : State) : (setAgentCounters f s).shaper = s.shaper := rfl
@[simp] theorem setAgentCounters_drives (f : AgentCounters → AgentCounters) (s : State) : (setAgentCounters f s).drives = s.drives := rfl
@[simp] theorem setAgentCounters_lock (f : AgentCounters → AgentCounters) (s : State) : (setAgentCounters f s).lock = s.lock := rfl
@[simp] theorem setAgentCounters_monitor (f : AgentCounters → AgentCounters) (s : State) : (setAgentCounters f s).monitor = s.monitor := rfl

@[simp] theorem setStage_pending (x : Stage) (s : State) : (setStage x s).pending = s.pending := rfl
@[simp] theorem setStage_now (x : Stage) (s : State) : (setStage x s).now = s.now := rfl
@[simp] theorem setStage_freeIndex (x : Stage) (s : State) : (setStage x s).freeIndex = s.freeIndex := rfl
@[simp] theorem setStage_resets (x : Stage) (s : State) : (setStage x s).resets = s.resets := rfl
@[simp] theorem setStage_node (x : Stage) (s : State) : (setStage x s).node = s.node := rfl
@[simp] theorem setStage_rx (x : Stage) (s : State) : (setStage x s).rx = s.rx := rfl
@[simp] theorem setStage_pool (x : Stage) (s : State) : (setStage x s).pool = s.pool := rfl
@[simp] theorem setStage_tx (x : Stage) (s : State) : (setStage x s).tx = s.tx := rfl
@[simp] theorem setStage_classifier (x : Stage) (s : State) : (setStage x s).classifier = s.classifier := rfl
@[simp] theorem setStage_channels (x : Stage) (s : State) : (setStage x s).channels = s.channels := rfl
@[simp] theorem setStage_envelope (x : Stage) (s : State) : (setStage x s).envelope = s.envelope := rfl
@[simp] theorem setStage_lean (x : Stage) (s : State) : (setStage x s).lean = s.lean := rfl
@[simp] theorem setStage_shaper (x : Stage) (s : State) : (setStage x s).shaper = s.shaper := rfl
@[simp] theorem setStage_drives (x : Stage) (s : State) : (setStage x s).drives = s.drives := rfl
@[simp] theorem setStage_lock (x : Stage) (s : State) : (setStage x s).lock = s.lock := rfl
@[simp] theorem setStage_monitor (x : Stage) (s : State) : (setStage x s).monitor = s.monitor := rfl

@[simp] theorem judgeAlert_pending (s : State) : (judgeAlert s).pending = s.pending := rfl
@[simp] theorem judgeAlert_now (s : State) : (judgeAlert s).now = s.now := rfl
@[simp] theorem judgeAlert_freeIndex (s : State) : (judgeAlert s).freeIndex = s.freeIndex := rfl
@[simp] theorem judgeAlert_resets (s : State) : (judgeAlert s).resets = s.resets := rfl
@[simp] theorem judgeAlert_node (s : State) : (judgeAlert s).node = s.node := rfl
@[simp] theorem judgeAlert_rx (s : State) : (judgeAlert s).rx = s.rx := rfl
@[simp] theorem judgeAlert_pool (s : State) : (judgeAlert s).pool = s.pool := rfl
@[simp] theorem judgeAlert_tx (s : State) : (judgeAlert s).tx = s.tx := rfl
@[simp] theorem judgeAlert_classifier (s : State) : (judgeAlert s).classifier = s.classifier := rfl
@[simp] theorem judgeAlert_channels (s : State) : (judgeAlert s).channels = s.channels := rfl
@[simp] theorem judgeAlert_envelope (s : State) : (judgeAlert s).envelope = s.envelope := rfl
@[simp] theorem judgeAlert_lean (s : State) : (judgeAlert s).lean = s.lean := rfl
@[simp] theorem judgeAlert_shaper (s : State) : (judgeAlert s).shaper = s.shaper := rfl
@[simp] theorem judgeAlert_drives (s : State) : (judgeAlert s).drives = s.drives := rfl
@[simp] theorem judgeAlert_lock (s : State) : (judgeAlert s).lock = s.lock := rfl
@[simp] theorem judgeAlert_agent (s : State) : (judgeAlert s).agent = s.agent := rfl

@[simp] theorem setWanted_pending (s : State) : (setWanted s).pending = s.pending := rfl
@[simp] theorem setWanted_now (s : State) : (setWanted s).now = s.now := rfl
@[simp] theorem setWanted_freeIndex (s : State) : (setWanted s).freeIndex = s.freeIndex := rfl
@[simp] theorem setWanted_resets (s : State) : (setWanted s).resets = s.resets := rfl
@[simp] theorem setWanted_node (s : State) : (setWanted s).node = s.node := rfl
@[simp] theorem setWanted_rx (s : State) : (setWanted s).rx = s.rx := rfl
@[simp] theorem setWanted_pool (s : State) : (setWanted s).pool = s.pool := rfl
@[simp] theorem setWanted_tx (s : State) : (setWanted s).tx = s.tx := rfl
@[simp] theorem setWanted_classifier (s : State) : (setWanted s).classifier = s.classifier := rfl
@[simp] theorem setWanted_channels (s : State) : (setWanted s).channels = s.channels := rfl
@[simp] theorem setWanted_envelope (s : State) : (setWanted s).envelope = s.envelope := rfl
@[simp] theorem setWanted_lean (s : State) : (setWanted s).lean = s.lean := rfl
@[simp] theorem setWanted_shaper (s : State) : (setWanted s).shaper = s.shaper := rfl
@[simp] theorem setWanted_drives (s : State) : (setWanted s).drives = s.drives := rfl
@[simp] theorem setWanted_lock (s : State) : (setWanted s).lock = s.lock := rfl
@[simp] theorem setWanted_agent (s : State) : (setWanted s).agent = s.agent := rfl

@[simp] theorem setPhase_pending (p : Port) (x : RxPhase) (s : State) : (setPhase p x s).pending = s.pending := rfl
@[simp] theorem setPhase_now (p : Port) (x : RxPhase) (s : State) : (setPhase p x s).now = s.now := rfl
@[simp] theorem setPhase_freeIndex (p : Port) (x : RxPhase) (s : State) : (setPhase p x s).freeIndex = s.freeIndex := rfl
@[simp] theorem setPhase_resets (p : Port) (x : RxPhase) (s : State) : (setPhase p x s).resets = s.resets := rfl
@[simp] theorem setPhase_node (p : Port) (x : RxPhase) (s : State) : (setPhase p x s).node = s.node := rfl
@[simp] theorem setPhase_pool (p : Port) (x : RxPhase) (s : State) : (setPhase p x s).pool = s.pool := rfl
@[simp] theorem setPhase_tx (p : Port) (x : RxPhase) (s : State) : (setPhase p x s).tx = s.tx := rfl
@[simp] theorem setPhase_classifier (p : Port) (x : RxPhase) (s : State) : (setPhase p x s).classifier = s.classifier := rfl
@[simp] theorem setPhase_channels (p : Port) (x : RxPhase) (s : State) : (setPhase p x s).channels = s.channels := rfl
@[simp] theorem setPhase_envelope (p : Port) (x : RxPhase) (s : State) : (setPhase p x s).envelope = s.envelope := rfl
@[simp] theorem setPhase_lean (p : Port) (x : RxPhase) (s : State) : (setPhase p x s).lean = s.lean := rfl
@[simp] theorem setPhase_shaper (p : Port) (x : RxPhase) (s : State) : (setPhase p x s).shaper = s.shaper := rfl
@[simp] theorem setPhase_drives (p : Port) (x : RxPhase) (s : State) : (setPhase p x s).drives = s.drives := rfl
@[simp] theorem setPhase_lock (p : Port) (x : RxPhase) (s : State) : (setPhase p x s).lock = s.lock := rfl
@[simp] theorem setPhase_monitor (p : Port) (x : RxPhase) (s : State) : (setPhase p x s).monitor = s.monitor := rfl
@[simp] theorem setPhase_agent (p : Port) (x : RxPhase) (s : State) : (setPhase p x s).agent = s.agent := rfl

end Sys2Proof.Machine
end

