-- ==== Sys2Proof/Laws/Footprint.lean ====
section
/-! SUPPORT. One lemma for each shared operation: what it may touch. -/

namespace Sys2Proof.Machine

/-! ## The relations -/

theorem KeepsBlocks.refl (s : State) : KeepsBlocks s s :=
  ⟨rfl, rfl, rfl, rfl, rfl, rfl, rfl, rfl, rfl, rfl, rfl, rfl⟩

theorem KeepsBlocks.trans {s t u : State} (h : KeepsBlocks s t) (k : KeepsBlocks t u) : KeepsBlocks s u :=
  ⟨k.pending.trans h.pending, k.now.trans h.now, k.freeIndex.trans h.freeIndex, k.resets.trans h.resets,
    k.node.trans h.node, k.rx.trans h.rx, k.classifier.trans h.classifier, k.channels.trans h.channels,
    k.envelope.trans h.envelope, k.shaper.trans h.shaper, by rw [k.tilt, h.tilt], by rw [k.steer, h.steer]⟩

theorem TrafficOnly.refl (s : State) : TrafficOnly s s := ⟨KeepsBlocks.refl s, rfl, rfl, rfl, rfl⟩

theorem TrafficOnly.trans {s t u : State} (h : TrafficOnly s t) (k : TrafficOnly t u) : TrafficOnly s u :=
  ⟨h.toKeepsBlocks.trans k.toKeepsBlocks, k.lean.trans h.lean, k.lock.trans h.lock, k.agent.trans h.agent,
    by rw [k.monitor, h.monitor]⟩

theorem ReactionOnly.refl (s : State) : ReactionOnly s s := ⟨KeepsBlocks.refl s, rfl, rfl, rfl, rfl, rfl⟩

theorem ReactionOnly.trans {s t u : State} (h : ReactionOnly s t) (k : ReactionOnly t u) : ReactionOnly s u :=
  ⟨h.toKeepsBlocks.trans k.toKeepsBlocks, by rw [k.lean, h.lean], k.agent.trans h.agent,
    k.quietPorts.trans h.quietPorts, k.interval.trans h.interval, k.supplyLow.trans h.supplyLow⟩

theorem RequestOnly.refl (s : State) : RequestOnly s s := ⟨KeepsBlocks.refl s, rfl, rfl, rfl, rfl, rfl⟩

theorem RequestOnly.trans {s t u : State} (h : RequestOnly s t) (k : RequestOnly t u) : RequestOnly s u :=
  ⟨h.toKeepsBlocks.trans k.toKeepsBlocks, by rw [k.lean, h.lean], by rw [k.agent, h.agent],
    k.quietPorts.trans h.quietPorts, k.interval.trans h.interval, k.supplyLow.trans h.supplyLow⟩

theorem TrafficOnly.reaction {s t : State} (h : TrafficOnly s t) : ReactionOnly s t :=
  ⟨h.toKeepsBlocks, by rw [h.lean], h.agent, by rw [h.monitor], by rw [h.monitor], by rw [h.monitor]⟩

theorem ReactionOnly.request {s t : State} (h : ReactionOnly s t) : RequestOnly s t :=
  ⟨h.toKeepsBlocks, h.lean, by rw [h.agent], h.quietPorts, h.interval, h.supplyLow⟩

theorem TrafficOnly.faults {s t : State} (h : TrafficOnly s t) : t.monitor.faults = s.monitor.faults := by
  rw [h.monitor]

theorem TrafficOnly.alert {s t : State} (h : TrafficOnly s t) : t.monitor.alert = s.monitor.alert := by
  rw [h.monitor]

theorem TrafficOnly.statusInHand {s t : State} (h : TrafficOnly s t) :
    t.monitor.statusInHand = s.monitor.statusInHand := by
  rw [h.monitor]

/-! ## Traffic -/

theorem putBuffer_traffic (t : Token) (b : Buffer) (s : State) : TrafficOnly s (putBuffer t b s) :=
  ⟨⟨rfl, rfl, rfl, rfl, rfl, rfl, rfl, rfl, rfl, rfl, rfl, rfl⟩, rfl, rfl, rfl, rfl⟩

theorem setTx_traffic (p : Port) (x : Transmitter) (s : State) : TrafficOnly s (setTx p x s) :=
  ⟨⟨rfl, rfl, rfl, rfl, rfl, rfl, rfl, rfl, rfl, rfl, rfl, rfl⟩, rfl, rfl, rfl, rfl⟩

theorem noticeRelease_traffic (s : State) : TrafficOnly s (noticeRelease s) := by
  unfold noticeRelease
  split
  · exact ⟨⟨rfl, rfl, rfl, rfl, rfl, rfl, rfl, rfl, rfl, rfl, rfl, rfl⟩, rfl, rfl, rfl, rfl⟩
  · exact TrafficOnly.refl s

theorem releaseBuffer_traffic (t : Token) (s : State) : TrafficOnly s (releaseBuffer t s) :=
  (putBuffer_traffic t _ s).trans (noticeRelease_traffic _)

theorem setBytes_traffic (t : Token) (bs : List Byte) (s : State) : TrafficOnly s (setBytes t bs s) :=
  putBuffer_traffic t _ s

theorem setBufferState_traffic (t : Token) (b : BufferState) (s : State) : TrafficOnly s (setBufferState t b s) :=
  putBuffer_traffic t _ s

theorem setRetainer_traffic (t : Token) (d : Option Drive) (s : State) : TrafficOnly s (setRetainer t d s) :=
  putBuffer_traffic t _ s

theorem holdForOrigin_traffic (t : Token) (s : State) : TrafficOnly s (holdForOrigin t s) :=
  putBuffer_traffic t _ s

theorem receiveInto_traffic (t : Token) (p : Port) (bs : List Byte) (s : State) :
    TrafficOnly s (receiveInto t p bs s) :=
  putBuffer_traffic t _ s

theorem tellSlot_traffic (d : Drive) (t : Token) (s : State) : TrafficOnly s (tellSlot d t s) := by
  unfold tellSlot
  dsimp only
  split
  · cases d <;> exact ⟨⟨rfl, rfl, rfl, rfl, rfl, rfl, rfl, rfl, rfl, rfl, rfl, rfl⟩, rfl, rfl, rfl, rfl⟩
  · exact TrafficOnly.refl s

theorem fillStatus_traffic (t : Token) (s : State) : TrafficOnly s (fillStatus t s) :=
  ⟨⟨rfl, rfl, rfl, rfl, rfl, rfl, rfl, rfl, rfl, rfl, rfl, rfl⟩, rfl, rfl, rfl, rfl⟩

theorem beginTransmission_traffic (p : Port) (t : Token) (s : State) : TrafficOnly s (beginTransmission p t s) := by
  unfold beginTransmission
  dsimp only
  have h := (setBufferState_traffic t .sending s).trans
    (setTx_traffic p { s.tx.get p with sending := some t } (setBufferState t .sending s))
  split
  · exact h.trans (fillStatus_traffic t _)
  · exact h

theorem ageOut_traffic (p : Port) (t : Token) (rest : List Token) (s : State) :
    TrafficOnly s (ageOut p t rest s) := by
  unfold ageOut
  dsimp only
  split
  · exact (setTx_traffic p _ s).trans (releaseBuffer_traffic t _)
  · exact (setTx_traffic p _ s).trans ((setBufferState_traffic t _ _).trans (tellSlot_traffic _ t _))

theorem ageHeads_traffic (p : Port) (q : List Token) (s : State) : TrafficOnly s (ageHeads p q s) := by
  induction q generalizing s with
  | nil => exact TrafficOnly.refl s
  | cons t rest ih =>
    unfold ageHeads
    split
    · exact (ageOut_traffic p t rest s).trans (ih _)
    · exact TrafficOnly.refl s

theorem choose_traffic (p : Port) (s : State) : TrafficOnly s (choose p s) := by
  unfold choose
  dsimp only
  split
  · exact TrafficOnly.refl s
  · exact (setTx_traffic p _ s).trans (beginTransmission_traffic p _ _)
  · exact (setTx_traffic p _ s).trans (beginTransmission_traffic p _ _)
  · split <;> exact (setTx_traffic p _ s).trans (beginTransmission_traffic p _ _)

theorem pick_traffic (p : Port) (s : State) : TrafficOnly s (pick p s) :=
  (ageHeads_traffic p _ s).trans (choose_traffic p _)

theorem appendTo_traffic (p : Port) (q : Queue) (t : Token) (s : State) : TrafficOnly s (appendTo p q t s) := by
  cases q <;> exact setTx_traffic p _ s

theorem enqueue_traffic (p : Port) (q : Queue) (t : Token) (s : State) : TrafficOnly s (enqueue p q t s) := by
  unfold enqueue
  dsimp only
  have h := (putBuffer_traffic t { buffer t s with state := .queued, egress := some ((buffer t s).egress.getD p) } s).trans
    (appendTo_traffic p q t _)
  split
  · exact h.trans (pick_traffic p _)
  · exact h

theorem unqueue_traffic (t : Token) (s : State) : TrafficOnly s (unqueue t s) :=
  ⟨⟨rfl, rfl, rfl, rfl, rfl, rfl, rfl, rfl, rfl, rfl, rfl, rfl⟩, rfl, rfl, rfl, rfl⟩

theorem forward_traffic (p : Port) (u : Bool) (t : Token) (s : State) : TrafficOnly s (forward p u t s) :=
  enqueue_traffic _ _ t s

theorem letGo_traffic (t : Token) (s : State) : TrafficOnly s (letGo t s) := by
  unfold letGo
  split
  · exact releaseBuffer_traffic t s
  all_goals exact setRetainer_traffic t none s

theorem withdraw_traffic (t : Token) (s : State) : TrafficOnly s (withdraw t s) := by
  unfold withdraw
  split
  · exact releaseBuffer_traffic t s
  · exact (unqueue_traffic t s).trans (releaseBuffer_traffic t _)
  · exact setRetainer_traffic t none s
  all_goals exact TrafficOnly.refl s

theorem onBuffer_traffic {f : Token → State → State} (h : ∀ t s, TrafficOnly s (f t s)) (t : Option Token)
    (s : State) : TrafficOnly s (onBuffer f t s) := by
  cases t with
  | none => exact TrafficOnly.refl s
  | some t => exact h t s

theorem settleSent_traffic (t : Token) (s : State) : TrafficOnly s (settleSent t s) := by
  unfold settleSent
  split
  · exact (setBufferState_traffic t _ s).trans (tellSlot_traffic _ t _)
  · exact releaseBuffer_traffic t s

theorem idleAndPick_traffic (p : Port) (s : State) : TrafficOnly s (idleAndPick p s) :=
  (setTx_traffic p _ s).trans (pick_traffic p _)

/-! ## Reports -/

theorem putFault_reaction (k : FaultKind) (r : FaultRecord) (s : State) : ReactionOnly s (putFault k r s) :=
  ⟨⟨rfl, rfl, rfl, rfl, rfl, rfl, rfl, rfl, rfl, rfl, rfl, rfl⟩, rfl, rfl, rfl, rfl, rfl⟩

theorem judgeAlert_reaction (s : State) : ReactionOnly s (judgeAlert s) :=
  ⟨⟨rfl, rfl, rfl, rfl, rfl, rfl, rfl, rfl, rfl, rfl, rfl, rfl⟩, rfl, rfl, rfl, rfl, rfl⟩

theorem setWanted_reaction (s : State) : ReactionOnly s (setWanted s) :=
  ⟨⟨rfl, rfl, rfl, rfl, rfl, rfl, rfl, rfl, rfl, rfl, rfl, rfl⟩, rfl, rfl, rfl, rfl, rfl⟩

theorem lockModeLeft_reaction (s : State) : ReactionOnly s (lockModeLeft s) := by
  unfold lockModeLeft
  split <;> first
    | exact ReactionOnly.refl s
    | exact ⟨⟨rfl, rfl, rfl, rfl, rfl, rfl, rfl, rfl, rfl, rfl, rfl, rfl⟩, rfl, rfl, rfl, rfl, rfl⟩

theorem lockInhibit_reaction (s : State) : ReactionOnly s (lockInhibit s) := by
  unfold lockInhibit
  split <;> first
    | exact ReactionOnly.refl s
    | exact ⟨⟨rfl, rfl, rfl, rfl, rfl, rfl, rfl, rfl, rfl, rfl, rfl, rfl⟩, rfl, rfl, rfl, rfl, rfl⟩

section taking
variable {want : State → State} (hw : ∀ s, ReactionOnly s (want s))
include hw

theorem takeInactive_reaction (k : FaultKind) (s : State) : ReactionOnly s (takeInactive want k s) := by
  unfold takeInactive
  dsimp only
  split
  · exact ReactionOnly.refl s
  · split
    · exact (putFault_reaction k _ s).trans (hw _)
    · exact putFault_reaction k _ s

theorem leaveActive_reaction (s : State) : ReactionOnly s (leaveActive want s) := by
  unfold leaveActive
  split
  · have h : ReactionOnly s { s with lean := { s.lean with mode := .recover } } :=
      ⟨⟨rfl, rfl, rfl, rfl, rfl, rfl, rfl, rfl, rfl, rfl, rfl, rfl⟩, rfl, rfl, rfl, rfl, rfl⟩
    exact h.trans ((takeInactive_reaction hw .excursion _).trans (lockModeLeft_reaction _))
  all_goals exact ReactionOnly.refl s

theorem react_reaction (k : FaultKind) (s : State) : ReactionOnly s (react want k s) := by
  unfold react
  dsimp only
  have h : ReactionOnly s (if 3 ≤ severity k s then lockInhibit s else s) := by
    split
    · exact lockInhibit_reaction s
    · exact ReactionOnly.refl s
  split
  · exact h.trans (leaveActive_reaction hw _)
  · exact h

theorem takeActive_reaction (k : FaultKind) (s : State) : ReactionOnly s (takeActive want k s) := by
  unfold takeActive
  dsimp only
  split
  · exact ReactionOnly.refl s
  · refine ReactionOnly.trans ?_ (judgeAlert_reaction _)
    have h := (putFault_reaction k
      { active := true, latched := true, occurrences := bumpByte (faultRecord k s).occurrences } s).trans
      (react_reaction hw k _)
    split
    · exact h.trans (hw _)
    · exact h

theorem take_reaction (k : FaultKind) (active : Bool) (s : State) : ReactionOnly s (take want k active s) := by
  unfold take
  split
  · exact takeActive_reaction hw k s
  · exact takeInactive_reaction hw k s

end taking

theorem launchStatus_reaction (t : Token) (s : State) : ReactionOnly s (launchStatus t s) := by
  unfold launchStatus
  dsimp only
  refine ReactionOnly.trans ?_ (enqueue_traffic _ _ _ _).reaction
  exact ⟨⟨rfl, rfl, rfl, rfl, rfl, rfl, rfl, rfl, rfl, rfl, rfl, rfl⟩, rfl, rfl, rfl, rfl, rfl⟩

theorem originateStatus_reaction (s : State) : ReactionOnly s (originateStatus s) := by
  unfold originateStatus
  split
  · exact ((holdForOrigin_traffic _ s).reaction.trans (take_reaction setWanted_reaction _ _ _)).trans
      (launchStatus_reaction _ _)
  · exact (take_reaction setWanted_reaction .poolExhausted true s).trans
      ⟨⟨rfl, rfl, rfl, rfl, rfl, rfl, rfl, rfl, rfl, rfl, rfl, rfl⟩, rfl, rfl, rfl, rfl, rfl⟩

theorem wantStatus_reaction (s : State) : ReactionOnly s (wantStatus s) := by
  unfold wantStatus
  split
  · exact ReactionOnly.refl s
  · split
    · exact (setWanted_reaction s).trans (originateStatus_reaction _)
    · exact setWanted_reaction s

/-- A report touches the fault table, status frames, the mode, the lock and what queueing touches. -/
theorem report_reaction (k : FaultKind) (active : Bool) (s : State) : ReactionOnly s (report k active s) :=
  take_reaction wantStatus_reaction k active s

theorem moveToRecover_reaction (s : State) : ReactionOnly s (moveToRecover s) :=
  leaveActive_reaction wantStatus_reaction s

theorem claimOrigin_reaction (s : State) : ReactionOnly s (claimOrigin s).2 := by
  unfold claimOrigin
  split
  · rename_i t _
    show ReactionOnly s (report .poolExhausted false (holdForOrigin t s))
    exact (holdForOrigin_traffic t s).reaction.trans (report_reaction _ _ _)
  · show ReactionOnly s (report .poolExhausted true s)
    exact report_reaction _ _ s

theorem reportStaleOf_reaction (r : Role) (active : Bool) (s : State) : ReactionOnly s (reportStaleOf r active s) := by
  unfold reportStaleOf
  split
  · exact ReactionOnly.refl s
  · exact report_reaction _ active s

theorem statusSent_reaction (p : Port) (t : Token) (s : State) : ReactionOnly s (statusSent p t s) := by
  have h : ReactionOnly s { s with monitor := { s.monitor with statusInHand := none } } :=
    ⟨⟨rfl, rfl, rfl, rfl, rfl, rfl, rfl, rfl, rfl, rfl, rfl, rfl⟩, rfl, rfl, rfl, rfl, rfl⟩
  unfold statusSent
  dsimp only
  split
  · split
    · exact h.trans (originateStatus_reaction _)
    · exact h
  · exact ReactionOnly.refl s

/-! ## Requests -/

theorem setAgentCounters_request (f : AgentCounters → AgentCounters) (s : State) :
    RequestOnly s (setAgentCounters f s) :=
  ⟨⟨rfl, rfl, rfl, rfl, rfl, rfl, rfl, rfl, rfl, rfl, rfl, rfl⟩, rfl, rfl, rfl, rfl, rfl⟩

theorem dropRequest_request (t : Token) (s : State) : RequestOnly s (dropRequest t s) :=
  (releaseBuffer_traffic t s).reaction.request.trans (setAgentCounters_request _ _)

theorem beginFrom_request (rs : List Request) (s : State) : RequestOnly s (beginFrom rs s) := by
  induction rs generalizing s with
  | nil => exact ⟨⟨rfl, rfl, rfl, rfl, rfl, rfl, rfl, rfl, rfl, rfl, rfl, rfl⟩, rfl, rfl, rfl, rfl, rfl⟩
  | cons r rest ih =>
    have h0 : RequestOnly s { s with agent := { s.agent with requests := rest } } :=
      ⟨⟨rfl, rfl, rfl, rfl, rfl, rfl, rfl, rfl, rfl, rfl, rfl, rfl⟩, rfl, rfl, rfl, rfl, rfl⟩
    have h1 := h0.trans (claimOrigin_reaction { s with agent := { s.agent with requests := rest } }).request
    unfold beginFrom
    split
    · rename_i t claimed heq
      rw [heq] at h1
      exact h1.trans ⟨⟨rfl, rfl, rfl, rfl, rfl, rfl, rfl, rfl, rfl, rfl, rfl, rfl⟩, rfl, rfl, rfl, rfl, rfl⟩
    · rename_i refused heq
      rw [heq] at h1
      exact (h1.trans (dropRequest_request r.buffer refused)).trans (ih _)

theorem beginRequests_request (s : State) : RequestOnly s (beginRequests s) := by
  unfold beginRequests
  split
  · exact beginFrom_request _ s
  · exact RequestOnly.refl s

theorem nextRequest_request (s : State) : RequestOnly s (nextRequest s) := by
  have h : RequestOnly s { s with agent := { s.agent with inHand := none } } :=
    ⟨⟨rfl, rfl, rfl, rfl, rfl, rfl, rfl, rfl, rfl, rfl, rfl, rfl⟩, rfl, rfl, rfl, rfl, rfl⟩
  exact h.trans (beginRequests_request _)

theorem takeRequest_request (t : Token) (p : Port) (s : State) : RequestOnly s (takeRequest t p s) := by
  have h : RequestOnly s { s with agent := { s.agent with requests := s.agent.requests ++ [{ buffer := t, port := p }] } } :=
    ⟨⟨rfl, rfl, rfl, rfl, rfl, rfl, rfl, rfl, rfl, rfl, rfl, rfl⟩, rfl, rfl, rfl, rfl, rfl⟩
  exact (h.trans (setAgentCounters_request _ _)).trans (beginRequests_request _)

theorem countReply_request (r : Result) (s : State) : RequestOnly s (countReply r s) :=
  setAgentCounters_request _ s

theorem queueReply_request (rq : RequestInHand) (r : Result) (data : List Byte) (s : State) :
    RequestOnly s (queueReply rq r data s) :=
  ((((releaseBuffer_traffic rq.request s).trans (setBytes_traffic rq.reply _ _)).trans
    (enqueue_traffic rq.port .priority rq.reply _)).reaction.request).trans (countReply_request r _)

/-- A reply touches the agent's list, request in hand and counters, and what a report touches. -/
theorem answer_request (r : Result) (data : List Byte) (s : State) : RequestOnly s (answer r data s) := by
  unfold answer
  split
  · exact RequestOnly.refl s
  · exact (queueReply_request _ r data s).trans (nextRequest_request _)

end Sys2Proof.Machine
end

