-- ==== Sys2Proof/Laws/Pool.lean ====
section
/-! SUPPORT. The buffer pool and the receivers: what a release, a claim and a reception leave. -/

namespace Sys2Proof.Machine

/-- A release empties one buffer and leaves the others. -/
theorem buffer_releaseBuffer (t u : Token) (s : State) :
    buffer u (releaseBuffer t s) = if t = u then Buffer.empty else buffer u s := by
  have h : buffer u (releaseBuffer t s) = buffer u (putBuffer t Buffer.empty s) := by
    unfold releaseBuffer noticeRelease
    split <;> rfl
  rw [h, buffer_putBuffer]

@[simp] theorem releaseBuffer_rx (t : Token) (s : State) : (releaseBuffer t s).rx = s.rx :=
  (releaseBuffer_traffic t s).rx

@[simp] theorem releaseBuffer_tx (t : Token) (s : State) : (releaseBuffer t s).tx = s.tx := by
  unfold releaseBuffer noticeRelease
  split <;> rfl

theorem buffer_setBytes (t u : Token) (bs : List Byte) (s : State) :
    buffer u (setBytes t bs s) = if t = u then { buffer t s with bytes := bs } else buffer u s := by
  rw [setBytes, buffer_putBuffer]

theorem buffer_setBufferState (t u : Token) (x : BufferState) (s : State) :
    buffer u (setBufferState t x s) = if t = u then { buffer t s with state := x } else buffer u s := by
  rw [setBufferState, buffer_putBuffer]

/-- The first index that passes a test passes it, and no lower index does. -/
theorem find_first {n : Nat} (f : Fin n → Bool) (b : Fin n) (h : (List.finRange n).find? f = some b) :
    f b = true ∧ ∀ c, c < b → f c = false := by
  rw [List.find?_eq_some_iff_append] at h
  obtain ⟨hb, as, bs, hl, has⟩ := h
  refine ⟨hb, fun c hc => ?_⟩
  have hm : c ∈ as ++ b :: bs := hl ▸ List.mem_finRange c
  have hs : (as ++ b :: bs).Pairwise (· < ·) := hl ▸ List.pairwise_lt_finRange n
  rw [List.pairwise_append, List.pairwise_cons] at hs
  rcases List.mem_append.1 hm with hm | hm
  · simpa using has c hm
  · rcases List.mem_cons.1 hm with rfl | hm
    · exact absurd hc (Nat.lt_irrefl _)
    · exact absurd hc (Nat.lt_asymm (hs.2.1.1 c hm))

/-- A claim takes the FREE buffer with the lowest token (R32, R33). -/
theorem lowestFree_spec {s : State} {b : Token} (h : lowestFree s = some b) :
    (buffer b s).state = .free ∧ ∀ c, c < b → (buffer c s).state ≠ .free := by
  have hs := find_first _ b h
  exact ⟨by simpa using hs.1, fun c hc => by simpa using hs.2 c hc⟩

/-- No buffer is FREE when no claim can succeed. -/
theorem lowestFree_none {s : State} (h : lowestFree s = none) (b : Token) : (buffer b s).state ≠ .free := by
  unfold lowestFree at h
  rw [List.find?_eq_none] at h
  simpa using h b (List.mem_finRange b)

theorem ReceptionOnly.refl (p : Port) (s : State) : ReceptionOnly p s s :=
  ⟨rfl, rfl, rfl, rfl, rfl, rfl, rfl, rfl, rfl, rfl, rfl, rfl, rfl, rfl, rfl, rfl⟩

theorem ReceptionOnly.trans {p : Port} {s t u : State} (h : ReceptionOnly p s t) (k : ReceptionOnly p t u) :
    ReceptionOnly p s u :=
  ⟨k.pending.trans h.pending, k.now.trans h.now, k.freeIndex.trans h.freeIndex, k.resets.trans h.resets,
    k.node.trans h.node, k.rx.trans h.rx, k.tx.trans h.tx, k.classifier.trans h.classifier,
    k.channels.trans h.channels, k.envelope.trans h.envelope, k.lean.trans h.lean, k.shaper.trans h.shaper,
    k.drives.trans h.drives, k.lock.trans h.lock, by rw [k.monitor, h.monitor], k.agent.trans h.agent⟩

theorem releaseBuffer_reception (p : Port) (t : Token) (s : State) : ReceptionOnly p s (releaseBuffer t s) := by
  unfold releaseBuffer noticeRelease
  split <;> exact ⟨rfl, rfl, rfl, rfl, rfl, rfl, rfl, rfl, rfl, rfl, rfl, rfl, rfl, rfl, rfl, rfl⟩

theorem setRx_reception (p : Port) (r : Receiver) (s : State) : ReceptionOnly p s (setRx p r s) :=
  ⟨rfl, rfl, rfl, rfl, rfl, by simp, rfl, rfl, rfl, rfl, rfl, rfl, rfl, rfl, rfl, rfl⟩

theorem setBytes_reception (p : Port) (t : Token) (bs : List Byte) (s : State) :
    ReceptionOnly p s (setBytes t bs s) :=
  ⟨rfl, rfl, rfl, rfl, rfl, rfl, rfl, rfl, rfl, rfl, rfl, rfl, rfl, rfl, rfl, rfl⟩

end Sys2Proof.Machine
end

