-- ==== Sys2Proof/Laws/Classification.lean ====
section
/-! SUPPORT. What the classification of a frame may touch. -/

namespace Sys2Proof.Machine

/-- The classification of a frame leaves the receivers, the tables, the parameters, the stage, the quiet ports and the
supply watch alone. -/
structure FrameOnly (s t : State) : Prop where
  pending : t.pending = s.pending
  now : t.now = s.now
  freeIndex : t.freeIndex = s.freeIndex
  resets : t.resets = s.resets
  node : t.node = s.node
  rx : t.rx = s.rx
  streams : t.classifier.table = s.classifier.table
  openMode : t.classifier.openMode = s.classifier.openMode
  channels : t.channels.table = s.channels.table
  envelope : t.envelope = s.envelope
  stage : t.agent.stage = s.agent.stage
  pendingCommit : t.agent.pendingCommit = s.agent.pendingCommit
  params : t.agent.params = s.agent.params
  quietPorts : t.monitor.quietPorts = s.monitor.quietPorts
  interval : t.monitor.interval = s.monitor.interval
  supplyLow : t.monitor.supplyLow = s.monitor.supplyLow

theorem FrameOnly.refl (s : State) : FrameOnly s s :=
  ⟨rfl, rfl, rfl, rfl, rfl, rfl, rfl, rfl, rfl, rfl, rfl, rfl, rfl, rfl, rfl, rfl⟩

theorem FrameOnly.trans {s t u : State} (h : FrameOnly s t) (k : FrameOnly t u) : FrameOnly s u :=
  ⟨k.pending.trans h.pending, k.now.trans h.now, k.freeIndex.trans h.freeIndex, k.resets.trans h.resets,
    k.node.trans h.node, k.rx.trans h.rx, k.streams.trans h.streams, k.openMode.trans h.openMode,
    k.channels.trans h.channels, k.envelope.trans h.envelope, k.stage.trans h.stage,
    k.pendingCommit.trans h.pendingCommit, k.params.trans h.params, k.quietPorts.trans h.quietPorts,
    k.interval.trans h.interval, k.supplyLow.trans h.supplyLow⟩

theorem RequestOnly.frame {s t : State} (h : RequestOnly s t) : FrameOnly s t :=
  ⟨h.pending, h.now, h.freeIndex, h.resets, h.node, h.rx, by rw [h.classifier], by rw [h.classifier],
    by rw [h.channels], h.envelope, by rw [h.agent], by rw [h.agent], by rw [h.agent], h.quietPorts, h.interval,
    h.supplyLow⟩

theorem ReactionOnly.frame {s t : State} (h : ReactionOnly s t) : FrameOnly s t := h.request.frame

theorem TrafficOnly.frame {s t : State} (h : TrafficOnly s t) : FrameOnly s t := h.reaction.frame

theorem setSlot_frame (d : Drive) (x : DriveSlot) (s : State) : FrameOnly s (setSlot d x s) :=
  ⟨rfl, rfl, rfl, rfl, rfl, rfl, rfl, rfl, rfl, rfl, rfl, rfl, rfl, rfl, rfl, rfl⟩

theorem setLeanCounters_frame (f : LeanCounters → LeanCounters) (s : State) : FrameOnly s (setLeanCounters f s) :=
  ⟨rfl, rfl, rfl, rfl, rfl, rfl, rfl, rfl, rfl, rfl, rfl, rfl, rfl, rfl, rfl, rfl⟩

theorem putRecord_frame (c : Channel) (r : ChannelRecord) (s : State) : FrameOnly s (putRecord c r s) :=
  ⟨rfl, rfl, rfl, rfl, rfl, rfl, rfl, rfl, rfl, rfl, rfl, rfl, rfl, rfl, rfl, rfl⟩

theorem countMiss_frame (d : Drive) (s : State) : FrameOnly s (countMiss d s) := by
  unfold countMiss
  dsimp only
  split
  · exact ((onBuffer_traffic letGo_traffic _ s).frame.trans (setSlot_frame d _ _)).trans (report_reaction _ _ _).frame
  · exact setSlot_frame d _ s

theorem takeCommand_frame (d : Drive) (t : Token) (q : Byte) (s : State) : FrameOnly s (takeCommand d t q s) :=
  (setRetainer_traffic t (some d) s).frame.trans (setSlot_frame d _ _)

theorem supersede_frame (d : Drive) (s : State) : FrameOnly s (supersede d s) :=
  ((onBuffer_traffic withdraw_traffic _ s).frame.trans (setSlot_frame d _ _)).trans (countMiss_frame d _)

theorem handOver_frame (d : Drive) (t : Token) (q : Byte) (s : State) : FrameOnly s (handOver d t q s) := by
  have h := setSlot_frame d { s.drives.get d with sentCount := bump (s.drives.get d).sentCount } s
  unfold handOver
  dsimp only
  split
  · exact h.trans (takeCommand_frame d t q _)
  · split
    · exact h.trans (supersede_frame d _)
    · exact (h.trans (supersede_frame d _)).trans (takeCommand_frame d t q _)
  · exact h

theorem deliverAck_frame (d : Drive) (bs : List Byte) (s : State) : FrameOnly s (deliverAck d bs s) := by
  unfold deliverAck
  dsimp only
  split
  · exact setSlot_frame d _ s
  · split
    · split
      · exact (onBuffer_traffic letGo_traffic _ s).frame.trans (setSlot_frame d _ _)
      · exact ((onBuffer_traffic letGo_traffic _ s).frame.trans (setSlot_frame d _ _)).trans (countMiss_frame d _)
    · exact setSlot_frame d _ s

theorem startCycle_frame (c : Cause) (s : State) : FrameOnly s (startCycle c s) := by
  unfold startCycle
  split <;> exact ⟨rfl, rfl, rfl, rfl, rfl, rfl, rfl, rfl, rfl, rfl, rfl, rfl, rfl, rfl, rfl, rfl⟩

theorem anchorSignal_frame (s : State) : FrameOnly s (anchorSignal s) := by
  unfold anchorSignal
  split
  · exact FrameOnly.refl s
  all_goals
    split
    · exact startCycle_frame .anchor s
    · split
      · exact ⟨rfl, rfl, rfl, rfl, rfl, rfl, rfl, rfl, rfl, rfl, rfl, rfl, rfl, rfl, rfl, rfl⟩
      · exact (setLeanCounters_frame _ s).trans (report_reaction _ _ _).frame

theorem handBack_frame (s : State) : FrameOnly s (handBack s) := by
  unfold handBack
  split <;> exact ⟨rfl, rfl, rfl, rfl, rfl, rfl, rfl, rfl, rfl, rfl, rfl, rfl, rfl, rfl, rfl, rfl⟩

theorem setLock_frame (x : Lock) (s : State) : FrameOnly s { s with lock := x } :=
  ⟨rfl, rfl, rfl, rfl, rfl, rfl, rfl, rfl, rfl, rfl, rfl, rfl, rfl, rfl, rfl, rfl⟩

theorem lockSignal_frame (v : Word) (s : State) : FrameOnly s (lockSignal v s) := by
  unfold lockSignal
  dsimp only
  split
  · exact (report_reaction _ _ s).frame
  · exact (report_reaction _ _ s).frame
  · split
    · exact FrameOnly.refl s
    · exact (((setLock_frame _ s).trans (setLock_frame _ _)).trans (report_reaction _ _ _).frame).trans
        (report_reaction _ _ _).frame
  · split
    · exact (((setLock_frame _ s).trans (report_reaction _ _ _).frame).trans (report_reaction _ _ _).frame).trans
        (handBack_frame _)
    · exact FrameOnly.refl s
  · exact FrameOnly.refl s

theorem tap_frame (frame : List Byte) (c : Channel) (g : Signals) (s : State) : FrameOnly s (tap frame c g s).2 := by
  unfold tap
  dsimp only
  split
  · exact ⟨rfl, rfl, rfl, rfl, rfl, rfl, rfl, rfl, rfl, rfl, rfl, rfl, rfl, rfl, rfl, rfl⟩
  · split
    · exact putRecord_frame c _ s
    · split
      · exact putRecord_frame c _ s
      · exact (putRecord_frame c _ s).trans (reportStaleOf_reaction _ _ _).frame

theorem tapAll_frame (frame : List Byte) (cs : List Channel) (g : Signals) (s : State) :
    FrameOnly s (tapAll frame cs g s).2 := by
  induction cs generalizing g s with
  | nil => exact FrameOnly.refl s
  | cons c rest ih => exact (tap_frame frame c g s).trans (ih _ _)

theorem tapFrame_frame (frame : List Byte) (cs : List Channel) (s : State) : FrameOnly s (tapFrame frame cs s) := by
  have h := tapAll_frame frame cs noSignals s
  have k : FrameOnly (tapAll frame cs noSignals s).2
      (if (tapAll frame cs noSignals s).1.anchor then anchorSignal (tapAll frame cs noSignals s).2
        else (tapAll frame cs noSignals s).2) := by
    split
    · exact anchorSignal_frame _
    · exact FrameOnly.refl _
  unfold tapFrame giveSignals
  dsimp only
  split
  · exact h.trans k
  · exact (h.trans k).trans (lockSignal_frame _ _)

theorem setShaper_frame (x : Shaper) (s : State) : FrameOnly s { s with shaper := x } :=
  ⟨rfl, rfl, rfl, rfl, rfl, rfl, rfl, rfl, rfl, rfl, rfl, rfl, rfl, rfl, rfl, rfl⟩

theorem bypassFrame_frame (s : State) : FrameOnly s (bypassFrame s) :=
  (setShaper_frame _ s).trans (report_reaction _ _ _).frame

theorem shapeFrame_frame (t : Token) (frame : List Byte) (o : Fin 16) (s : State) :
    FrameOnly s (shapeFrame t frame o s) := by
  unfold shapeFrame trackSteerFrame
  dsimp only
  have h (x : Shaper) (b : Bool) (bs : List Byte) :
      FrameOnly s (setBytes t bs (report .demandClamped b { s with shaper := x })) :=
    ((setShaper_frame x s).trans (report_reaction _ b _).frame).trans (setBytes_traffic t bs _).frame
  split
  · exact (h _ _ _).trans (handOver_frame .steer t _ _)
  · exact h _ _ _

theorem shape_frame (p : Port) (t : Token) (cs : List Channel) (u : Bool) (s : State) :
    FrameOnly s (shape p t cs u s) := by
  have h := tapFrame_frame (buffer t s).bytes cs s
  unfold shape
  dsimp only
  refine FrameOnly.trans (h.trans ?_) (forward_traffic p u t _).frame
  split
  · exact bypassFrame_frame _
  · exact shapeFrame_frame t _ _ _

theorem perform_frame (e : StreamEntry) (p : Port) (t : Token) (s : State) : FrameOnly s (perform e p t s) := by
  unfold perform
  dsimp only
  split
  · exact (forward_traffic p _ t s).frame
  · exact (tapFrame_frame _ _ s).trans (forward_traffic p _ t _).frame
  · exact (tapFrame_frame _ _ s).trans (releaseBuffer_traffic t _).frame
  · exact shape_frame p t _ _ s
  · exact (deliverAck_frame _ _ s).trans (releaseBuffer_traffic t _).frame
  · exact (releaseBuffer_traffic t s).frame

/-- A classification touches none of the tables and no receiver. -/
theorem classify_frame (p : Port) (t : Token) (s : State) : FrameOnly s (classify p t s) := by
  have hm (i : Fin 24) : FrameOnly s (countMatch i s) :=
    ⟨rfl, rfl, rfl, rfl, rfl, rfl, rfl, rfl, rfl, rfl, rfl, rfl, rfl, rfl, rfl, rfl⟩
  have hd : FrameOnly s { s with classifier := { s.classifier with defaulted := bump s.classifier.defaulted } } :=
    ⟨rfl, rfl, rfl, rfl, rfl, rfl, rfl, rfl, rfl, rfl, rfl, rfl, rfl, rfl, rfl, rfl⟩
  unfold classify
  dsimp only
  split
  · exact (takeRequest_request t p s).frame
  · split
    · exact (forward_traffic p false t s).frame
    · split
      · exact (hm _).trans (perform_frame _ p t _)
      · unfold defaultDisposition
        dsimp only
        split
        · exact hd.trans (releaseBuffer_traffic t _).frame
        · exact hd.trans (forward_traffic p false t _).frame

end Sys2Proof.Machine
end

