-- ==== Sys2Proof/Laws/Reports.lean ====
section
/-! SUPPORT. What a report leaves in the fault table, at the mode and at the lock. -/

namespace Sys2Proof.Machine

theorem severity_of_params {s t : State} (h : t.agent.params = s.agent.params) (k : FaultKind) :
    severity k t = severity k s := by
  simp [severity, severityAt, param, h]

theorem ReactionOnly.severity {s t : State} (h : ReactionOnly s t) (k : FaultKind) :
    Machine.severity k t = Machine.severity k s :=
  severity_of_params (by rw [h.agent]) k

theorem faultRecord_of_faults {s t : State} (h : t.monitor.faults = s.monitor.faults) (k : FaultKind) :
    faultRecord k t = faultRecord k s := by
  simp [faultRecord, h]

/-- The records that no report of another kind changes are as before. -/
def KeepsOthers (s t : State) : Prop := ∀ j, reportedAlong j = false → faultRecord j t = faultRecord j s

theorem KeepsOthers.refl (s : State) : KeepsOthers s s := fun _ _ => rfl

theorem KeepsOthers.trans {s t u : State} (h : KeepsOthers s t) (k : KeepsOthers t u) : KeepsOthers s u :=
  fun j hj => (k j hj).trans (h j hj)

theorem KeepsOthers.of_faults {s t : State} (h : t.monitor.faults = s.monitor.faults) : KeepsOthers s t :=
  fun j _ => faultRecord_of_faults h j

theorem putFault_keepsOthers {k : FaultKind} (hk : reportedAlong k = true) (r : FaultRecord) (s : State) :
    KeepsOthers s (putFault k r s) := by
  intro j hj
  have : k ≠ j := fun e => by rw [e, hj] at hk; exact absurd hk (by decide)
  rw [faultRecord_putFault, if_neg this]

@[simp] theorem lockModeLeft_monitor (s : State) : (lockModeLeft s).monitor = s.monitor := by
  unfold lockModeLeft
  split <;> rfl

@[simp] theorem lockInhibit_monitor (s : State) : (lockInhibit s).monitor = s.monitor := by
  unfold lockInhibit
  split <;> rfl

section taking
variable {want : State → State} (hw : ∀ s, KeepsOthers s (want s))
include hw

theorem takeInactive_keepsOthers {k : FaultKind} (hk : reportedAlong k = true) (s : State) :
    KeepsOthers s (takeInactive want k s) := by
  unfold takeInactive
  dsimp only
  split
  · exact KeepsOthers.refl s
  · split
    · exact (putFault_keepsOthers hk _ s).trans (hw _)
    · exact putFault_keepsOthers hk _ s

theorem leaveActive_keepsOthers (s : State) : KeepsOthers s (leaveActive want s) := by
  unfold leaveActive
  split
  · have h : KeepsOthers s { s with lean := { s.lean with mode := .recover } } := KeepsOthers.of_faults rfl
    exact (h.trans (takeInactive_keepsOthers hw rfl _)).trans
      (KeepsOthers.of_faults (by rw [lockModeLeft_monitor]))
  all_goals exact KeepsOthers.refl s

theorem react_keepsOthers (k : FaultKind) (s : State) : KeepsOthers s (react want k s) := by
  have h : KeepsOthers s (if 3 ≤ severity k s then lockInhibit s else s) := by
    split
    · exact KeepsOthers.of_faults (by rw [lockInhibit_monitor])
    · exact KeepsOthers.refl s
  unfold react
  dsimp only
  split
  · exact h.trans (leaveActive_keepsOthers hw _)
  · exact h

theorem takeActive_keepsOthers {k : FaultKind} (hk : reportedAlong k = true) (s : State) :
    KeepsOthers s (takeActive want k s) := by
  unfold takeActive
  dsimp only
  split
  · exact KeepsOthers.refl s
  · have h := (putFault_keepsOthers hk
      { active := true, latched := true, occurrences := bumpByte (faultRecord k s).occurrences } s).trans
      (react_keepsOthers hw k _)
    refine KeepsOthers.trans ?_ (KeepsOthers.of_faults (judgeAlert_faults _))
    split
    · exact h.trans (hw _)
    · exact h

/-- A report leaves the record that the table of R162 gives, and the others but for the two that are reported along. -/
theorem take_record (k : FaultKind) (active : Bool) (s : State) (hk : reportedAlong k = false) :
    faultRecord k (take want k active s) = takenRecord (severity k s) active (faultRecord k s)
      ∧ ∀ j, j ≠ k → reportedAlong j = false → faultRecord j (take want k active s) = faultRecord j s := by
  have put (r : FaultRecord) :
      faultRecord k (putFault k r s) = r
        ∧ ∀ j, j ≠ k → reportedAlong j = false → faultRecord j (putFault k r s) = faultRecord j s :=
    ⟨by simp, fun j hj _ => by rw [faultRecord_putFault, if_neg (Ne.symm hj)]⟩
  have go {r : FaultRecord} {t : State} (h : KeepsOthers (putFault k r s) t) :
      faultRecord k t = r ∧ ∀ j, j ≠ k → reportedAlong j = false → faultRecord j t = faultRecord j s :=
    ⟨(h k hk).trans (put r).1, fun j hj ha => (h j ha).trans ((put r).2 j hj ha)⟩
  unfold take
  cases active with
  | true =>
    simp only [if_true]
    unfold takeActive takenRecord
    dsimp only
    by_cases h0 : severity k s = 0
    · simp [h0]
    · by_cases h1 : (faultRecord k s).active = true
      · simp [h1]
      · rw [if_neg (not_or.2 ⟨h0, h1⟩), if_neg h0, if_pos rfl, if_neg h1]
        refine go (KeepsOthers.trans ?_ (KeepsOthers.of_faults (judgeAlert_faults _)))
        split
        · exact (react_keepsOthers hw k _).trans (hw _)
        · exact react_keepsOthers hw k _
  | false =>
    simp only [Bool.false_eq_true, if_false]
    unfold takeInactive takenRecord
    dsimp only
    by_cases h0 : severity k s = 0
    · simp [h0]
    · by_cases h1 : (faultRecord k s).active = false
      · simp only [h1, or_true, if_true, h0, Bool.false_eq_true, if_false]
        refine ⟨?_, fun _ _ _ => trivial⟩
        rw [← h1]
      · rw [if_neg (not_or.2 ⟨h0, h1⟩), if_neg h0, if_neg Bool.false_ne_true]
        refine go ?_
        split
        · exact hw _
        · exact KeepsOthers.refl _

end taking

theorem setWanted_keepsOthers (s : State) : KeepsOthers s (setWanted s) :=
  KeepsOthers.of_faults (setWanted_faults s)

theorem TrafficOnly.keepsOthers {s t : State} (h : TrafficOnly s t) : KeepsOthers s t :=
  KeepsOthers.of_faults h.faults

theorem launchStatus_faults (t : Token) (s : State) : (launchStatus t s).monitor.faults = s.monitor.faults := by
  unfold launchStatus
  dsimp only
  rw [(enqueue_traffic _ _ _ _).faults]
  rfl

theorem originateStatus_keepsOthers (s : State) : KeepsOthers s (originateStatus s) := by
  unfold originateStatus
  split
  · exact ((holdForOrigin_traffic _ s).keepsOthers.trans (takeInactive_keepsOthers setWanted_keepsOthers rfl _)).trans
      (KeepsOthers.of_faults (launchStatus_faults _ _))
  · exact (takeActive_keepsOthers setWanted_keepsOthers rfl s).trans (KeepsOthers.of_faults rfl)

theorem wantStatus_keepsOthers (s : State) : KeepsOthers s (wantStatus s) := by
  unfold wantStatus
  split
  · exact KeepsOthers.refl s
  · split
    · exact (setWanted_keepsOthers s).trans (originateStatus_keepsOthers _)
    · exact setWanted_keepsOthers s

theorem report_record (k : FaultKind) (active : Bool) (s : State) (hk : reportedAlong k = false) :
    faultRecord k (report k active s) = takenRecord (severity k s) active (faultRecord k s)
      ∧ ∀ j, j ≠ k → reportedAlong j = false → faultRecord j (report k active s) = faultRecord j s :=
  take_record wantStatus_keepsOthers k active s hk

/-! ## Status-wanted -/

/-- The pool and the status frame in hand are as before, and a status-wanted flag that is set stays set. -/
structure KeepsStatus (s t : State) : Prop where
  pool : t.pool = s.pool
  inHand : t.monitor.statusInHand = s.monitor.statusInHand
  seq : t.monitor.statusSeq = s.monitor.statusSeq
  wanted : s.monitor.statusWanted = true → t.monitor.statusWanted = true

theorem KeepsStatus.refl (s : State) : KeepsStatus s s := ⟨rfl, rfl, rfl, id⟩

theorem KeepsStatus.trans {s t u : State} (h : KeepsStatus s t) (k : KeepsStatus t u) : KeepsStatus s u :=
  ⟨k.pool.trans h.pool, k.inHand.trans h.inHand, k.seq.trans h.seq, k.wanted ∘ h.wanted⟩

theorem setWanted_keepsStatus (s : State) : KeepsStatus s (setWanted s) := ⟨rfl, rfl, rfl, fun _ => rfl⟩

theorem putFault_keepsStatus (k : FaultKind) (r : FaultRecord) (s : State) : KeepsStatus s (putFault k r s) :=
  ⟨rfl, rfl, rfl, id⟩

theorem lockModeLeft_keepsStatus (s : State) : KeepsStatus s (lockModeLeft s) := by
  unfold lockModeLeft
  split <;> exact ⟨rfl, rfl, rfl, id⟩

theorem lockInhibit_keepsStatus (s : State) : KeepsStatus s (lockInhibit s) := by
  unfold lockInhibit
  split <;> exact ⟨rfl, rfl, rfl, id⟩

theorem takeInactive_setWanted_keepsStatus (k : FaultKind) (s : State) :
    KeepsStatus s (takeInactive setWanted k s) := by
  unfold takeInactive
  dsimp only
  split
  · exact KeepsStatus.refl s
  · split
    · exact (putFault_keepsStatus k _ s).trans (setWanted_keepsStatus _)
    · exact putFault_keepsStatus k _ s

theorem leaveActive_setWanted_keepsStatus (s : State) : KeepsStatus s (leaveActive setWanted s) := by
  unfold leaveActive
  split
  · exact KeepsStatus.trans (t := { s with lean := { s.lean with mode := .recover } }) ⟨rfl, rfl, rfl, id⟩
      ((takeInactive_setWanted_keepsStatus .excursion _).trans (lockModeLeft_keepsStatus _))
  all_goals exact KeepsStatus.refl s

theorem react_setWanted_keepsStatus (k : FaultKind) (s : State) : KeepsStatus s (react setWanted k s) := by
  have told : KeepsStatus s (if 3 ≤ severity k s then lockInhibit s else s) := by
    split
    · exact lockInhibit_keepsStatus s
    · exact KeepsStatus.refl s
  unfold react
  dsimp only
  split
  · exact told.trans (leaveActive_setWanted_keepsStatus _)
  · exact told

/-- A report that finds status-wanted set leaves the pool and the status frame in hand alone. -/
theorem take_setWanted_keepsStatus (k : FaultKind) (active : Bool) (s : State) :
    KeepsStatus s (take setWanted k active s) := by
  unfold take
  split
  · unfold takeActive
    dsimp only
    split
    · exact KeepsStatus.refl s
    · let r : FaultRecord := { active := true, latched := true, occurrences := bumpByte (faultRecord k s).occurrences }
      refine ((putFault_keepsStatus k r s).trans (react_setWanted_keepsStatus k _)).trans ?_
      split
      · exact (setWanted_keepsStatus _).trans ⟨rfl, rfl, rfl, id⟩
      · exact ⟨rfl, rfl, rfl, id⟩
  · exact takeInactive_setWanted_keepsStatus k s

theorem launchStatus_status (t : Token) (s : State) :
    (launchStatus t s).monitor.statusInHand = some t
      ∧ (launchStatus t s).monitor.statusSeq = s.monitor.statusSeq + 1 := by
  unfold launchStatus
  dsimp only
  refine ⟨?_, ?_⟩ <;> rw [(enqueue_traffic .cockpit .priority t _).monitor] <;> rfl

/-- Setting status-wanted does what the events of R171 say of it. -/
theorem wantStatus_statusWantedFrom (s : State) : StatusWantedFrom s (wantStatus s) := by
  constructor
  · intro h
    unfold wantStatus
    split
    · exact ⟨‹_›, rfl⟩
    · split
      · exact absurd ‹s.monitor.statusInHand = none› (h.resolve_left (by assumption))
      · exact ⟨rfl, rfl⟩
  · intro hw hn b hb
    have hb' : lowestFree (setWanted s) = some b := hb
    simp only [wantStatus, hw, hn, originateStatus, hb', if_true, Bool.false_eq_true, if_false]
    have k := (take_setWanted_keepsStatus .poolExhausted false (holdForOrigin b (setWanted s))).seq
    exact ⟨(launchStatus_status b _).1, (launchStatus_status b _).2.trans (congrArg (· + 1) k)⟩
  · intro hw hn hb
    have hb' : lowestFree (setWanted s) = none := hb
    simp only [wantStatus, hw, hn, originateStatus, hb', if_true, Bool.false_eq_true, if_false]
    have k := take_setWanted_keepsStatus .poolExhausted true (setWanted s)
    exact ⟨k.inHand.trans hn, k.wanted rfl, trivial, congrArg Pool.buffers k.pool⟩

end Sys2Proof.Machine
end

