-- ==== Sys2Proof/WellFormed.lean ====
section
/-! DEFINITION. Which commands are well formed.

Ports, drives, channel numbers, straps and bytes are in range by their types. Two bounds of the frame format are
left: the header carries any length byte (a long frame is no ill-formed command, R24), and the bytes after a header
that a receiver takes into a buffer are a payload of 0 to 32 bytes and a check of 2 (00_scope.md section 5.3). -/

namespace Sys2Proof

/-- The bytes after a header hold at least the check (00_scope.md section 5.3). -/
def bodyHoldsCheck (body : List Byte) : Bool := 2 ≤ body.length

/-- The bytes after a header hold no more than 32 payload bytes and the check (00_scope.md section 5.3). -/
def bodyFitsBuffer (body : List Byte) : Bool := body.length ≤ 34

/-- A command that the line can deliver. Commands that are not well formed still have a meaning: see FRAME_END. -/
def WellFormed : Instr → Bool
  | .frameEnd _ body => bodyHoldsCheck body && bodyFitsBuffer body
  | .frameStart _ | .headerComplete _ _ _ _ _ | .discardEnd _ | .lineFault _ | .quietTimerExpiry _
  | .freshnessTimerExpiry _ | .transmissionComplete _ | .cycleTimerExpiry | .cycleCompletion
  | .releaseQualifyExpiry | .confirmExpiryReleasing | .engageQualifyExpiry | .confirmExpiryEngaging
  | .ackTimerExpiry _ | .statusClaimRetry | .statusIntervalExpiry | .supplyLow | .supplyRestored
  | .powerOnReset | .powerOnResetEnd _ _ | .pinReset | .pinResetEnd _ _ | .managementResetEnd _ _
  | .malformedRequest | .readState | .readEntry | .stageEntry | .discardStage | .commit | .readCounters
  | .clearCounters | .clearFaults | .engageControl | .releaseControl | .reset => true

end Sys2Proof
end

