-- ==== Sys2Proof/Tests/Slice0.lean ====
section
/-! SUPPORT. Tests: the WellFormed smoke, one or two steps of each command from the worked examples, and for each
obligation with hypotheses a state that meets them. -/

set_option Elab.async false

namespace Sys2Proof.Tests

open Sys2Proof Sys2Proof.Machine

/-! ## States to test on -/

/-- The part out of reset at clock 1000 with nothing under way and the start-up status frame sent. -/
def quietPart : State :=
  let s :=
    State.resetValues { power := false, pin := false, management := false, lastBegun := .pin, cause := .pin } 0 []
      1000 0
  { s with monitor := { s.monitor with statusWanted := false } }

/-- A mode and a lock state. -/
def inMode (m : Mode) (l : LockState) (s : State) : State :=
  { s with
    lean := { s.lean with mode := m }
    lock := { s.lock with state := l, output := lockAsserted l }
    classifier := { s.classifier with openMode := m == .bridge } }

/-- A parameter with another value. -/
def withParam (i : Fin 44) (w : Word) (s : State) : State :=
  { s with agent := { s.agent with params := put s.agent.params i w } }

/-- A buffer HELD with these bytes, arrived one unit ago from the cockpit port. -/
def heldBuffer (bs : List Byte) : Buffer :=
  { state := .held, arrival := 999, arrivalPort := some .cockpit, egress := none, retainer := none, bytes := bs }

/-- A request with this payload in hand, in buffer 1, with its reply buffer 2. -/
def withRequest (payload : List Byte) (s : State) : State :=
  let held := putBuffer 1 (heldBuffer (buildFrame 5 (managementStream s.node) 9 payload)) (putBuffer 2 (heldBuffer []) s)
  { held with agent := { held.agent with inHand := some { request := 1, reply := 2, port := .cockpit } } }

/-- The cockpit receiver in BODY with the header of a frame in buffer 3. -/
def receiving (frame : List Byte) (s : State) : State :=
  setPhase .cockpit (.body 3 (frame.length - 4))
    (putBuffer 3 { heldBuffer (frame.take 4) with state := .receiving } s)

/-- A SAMPLE frame of stream 5 with this sequence and payload. -/
def sample (seq : Byte) (payload : List Byte) : List Byte := buildFrame 1 5 seq payload

/-- The fault record of a kind inactive and latched, or active. -/
def withFault (k : FaultKind) (active : Bool) (s : State) : State :=
  putFault k { active := active, latched := true, occurrences := 1 } s

/-- Every buffer from this token on in HELD. -/
def fullFrom (n : Nat) (s : State) : State :=
  { s with
    pool :=
      { s.pool with
        buffers := Vector.ofFn fun t => if t.val < n then look s.pool.buffers t else heldBuffer [] } }

/-- The enabled rows 0 to 2 of section 4.8, with low edges 0, 150 and 400. -/
def rowsOf48 : Vector EnvelopeRow 12 :=
  let row (edge : Word) : EnvelopeRow :=
    { EnvelopeRow.atReset with
      enabled := true, lowEdge := edge, leanLimit := 300, leanStep := 10, leanPerSteer := 256, kp := 64, kd := 32,
      steerLimit := 450, steerStep := 40, steerDeadband := 4 }
  put (put (put (Vector.replicate 12 EnvelopeRow.atReset) 0 (row 0)) 1 (row 150)) 2 (row 400)

/-- A valid envelope in force. -/
def withEnvelope (s : State) : State := { s with envelope := { rows := rowsOf48, valid := true } }

/-- Channels 0 to 4 bound to the required roles at word offset 0, with fresh values. -/
def withChannels (s : State) : State :=
  let bound (r : Role) : ChannelEntry := { enabled := true, role := r, offset := 0, freshness := 500 }
  let fresh : ChannelRecord := { ChannelRecord.atReset with value := some 40, lastSeq := some 8, timer := some 0 }
  { s with
    channels :=
      { table :=
          put (put (put (put (put s.channels.table 0 (bound .speed)) 1 (bound .rollRate)) 2 (bound .leanAngle)) 3
            (bound .riderSteer)) 4 (bound .lockPosition)
        records :=
          put (put (put (put (put s.channels.records 0 fresh) 1 fresh) 2 fresh) 3 fresh) 4 fresh } }

/-- The part in control: ACTIVE with the lock FREE, channels, envelope and row 0. -/
def inControl : State :=
  let s := inMode .active .free (withChannels (withEnvelope quietPart))
  { s with lean := { s.lean with row := some 0, timer := some 0 } }

/-- A cycle in flight as the lean law in this state would start it. -/
def inCycle (s : State) : State :=
  { s with lean := { s.lean with cycle := some (newCycle .anchor s.lean.row s) } }

/-- A slot AWAITING sequence 7 with buffer 4, its ack timer just expired. -/
def awaitingSlot : DriveSlot :=
  { DriveSlot.atReset with state := .awaiting, outstanding := some 7, retained := some 4, timer := some 0 }

/-- The TILT slot AWAITING, its buffer 4 in this state. -/
def awaitingAck (b : BufferState) (s : State) : State :=
  setSlot .tilt awaitingSlot
    (putBuffer 4 { heldBuffer (sample 7 [0, 0]) with state := b, retainer := some .tilt, egress := some .chassis } s)

/-- A frame of buffer 5 in transmission at the cockpit port. -/
def transmitting (s : State) : State :=
  { putBuffer 5 { heldBuffer (sample 1 []) with state := .sending, egress := some .cockpit } s with
    tx := s.tx.set .cockpit { s.tx.cockpit with sending := some 5 } }

/-- What a next state holds; a fault and a refusal hold nothing. -/
def answers (o : Host.Outcome State Fault Refusal) (p : State → Bool) : Bool :=
  match o with
  | .next t => p t
  | .fault _ => false
  | .refused _ => false

/-- The reply in buffer 2 carries this result. -/
def replied (r : Result) (t : State) : Bool := byteAt (buffer 2 t).bytes 6 == resultCode r

/-! ## Well-formed commands -/

theorem test_short_body_is_ill_formed : WellFormed (.frameEnd .cockpit [0]) = false := by decide +kernel

theorem test_long_body_is_ill_formed : WellFormed (.frameEnd .cockpit (List.replicate 35 0)) = false := by
  decide +kernel

theorem test_bodies_of_2_and_34_bytes_are_well_formed :
    WellFormed (.frameEnd .cockpit [0, 0]) = true ∧ WellFormed (.frameEnd .chassis (List.replicate 34 0)) = true := by
  decide +kernel

/-! ## Frames and encodings -/

/-- The standard check value of this CRC (00_scope.md section 5.3). -/
theorem test_check_of_the_nine_digits :
    crc16 [0x31, 0x32, 0x33, 0x34, 0x35, 0x36, 0x37, 0x38, 0x39] = 0x29B1 := by decide +kernel

/-- The byte sum of the stream table after reset (chapter 11, the example of a stream commit check). -/
theorem test_stream_table_sum_after_reset :
    tableSum streamBytes (Vector.replicate 24 StreamEntry.atReset) = 984 := by decide +kernel

theorem test_no_word_spells_a_command : decodeTableWord 8 0 = none := rfl

/-! ## Resets -/

theorem test_reset_is_the_end_of_a_pin_reset :
    answers (exec .pinReset State.reset) (fun t =>
      t.monitor.alert && answers (exec (.pinResetEnd 0 false) { t with now := 0 }) (fun u => u == State.reset))
      = true := by decide +kernel

theorem test_power_on_reset_end_on_a_low_supply :
    answers (exec .powerOnReset quietPart) (fun t =>
      answers (exec (.powerOnResetEnd 3 true) t) (fun u =>
        u.monitor.alert && u.monitor.supplyLow && u.node == 3 && u.resets.cause == .power
          && faultRecord .supplyLow u == { active := true, latched := true, occurrences := 1 })) = true := by
  decide +kernel

theorem test_reset_request_begins_a_management_reset :
    answers (exec .reset (withRequest [7, 11] quietPart)) (fun t =>
      t.resets.management && t.monitor.alert
        && answers (exec (.managementResetEnd 0 false) t) (fun u => u.resets.cause == .management)) = true := by
  decide +kernel

theorem test_reset_request_is_refused_in_control :
    answers (exec .reset (withRequest [7, 11] inControl)) (fun t => replied .refusedMode t && !inReset t) = true := by
  decide +kernel

/-! ## Receivers -/

theorem test_frame_start_in_body_counts_a_check_error :
    answers (exec (.frameStart .cockpit) (receiving (sample 1 [0, 9]) quietPart)) (fun t =>
      t.rx.cockpit.phase == .header && t.rx.cockpit.checkError == 1 && buffer 3 t == Buffer.empty) = true := by
  decide +kernel

theorem test_line_fault_while_discarding_counts_nothing :
    answers (exec (.lineFault .chassis) (setPhase .chassis (.discarding 9) quietPart)) (fun t =>
      t == quietPart) = true := by decide +kernel

theorem test_header_claims_the_lowest_free_buffer :
    answers (exec (.headerComplete .cockpit 0x10 5 1 32) (setPhase .cockpit .header quietPart)) (fun t =>
      t.rx.cockpit.phase == .body 0 34 && (buffer 0 t).state == .receiving && freeCount t == 47) = true := by
  decide +kernel

theorem test_header_of_33_is_long :
    answers (exec (.headerComplete .cockpit 0x10 5 1 33) (setPhase .cockpit .header quietPart)) (fun t =>
      t.rx.cockpit.phase == .discarding 35 && t.rx.cockpit.long == 1) = true := by decide +kernel

theorem test_discard_ends_in_idle :
    answers (exec (.discardEnd .cockpit) (setPhase .cockpit (.discarding 35) quietPart)) (fun t =>
      t == quietPart) = true := by decide +kernel

theorem test_good_frame_is_forwarded_in_open_mode :
    let f := sample 9 [0, 40]
    answers (exec (.frameEnd .cockpit (f.drop 4)) (receiving f quietPart)) (fun t =>
      t.rx.cockpit.good == 1 && t.tx.chassis.sending == some 3 && (buffer 3 t).bytes == f) = true := by
  decide +kernel

theorem test_bad_frame_is_counted :
    let f := sample 9 [0, 40]
    answers (exec (.frameEnd .cockpit [0, 40, 0, 0]) (receiving f quietPart)) (fun t =>
      t.rx.cockpit.checkError == 1 && buffer 3 t == Buffer.empty) = true := by decide +kernel

/-- QUIET_TIME 30 on the cockpit port, its timer just expired. -/
def quietDue (s : State) : State := setRx .cockpit { s.rx.cockpit with quiet := some 0 } s

theorem test_quiet_expiry_reports_link_quiet :
    answers (exec (.quietTimerExpiry .cockpit) (quietDue (withParam 39 1 quietPart))) (fun t =>
      t.monitor.quietPorts.cockpit && (faultRecord .linkQuiet t).active && t.rx.cockpit.quiet == none) = true := by
  decide +kernel

theorem test_freshness_expiry_makes_stale :
    answers (exec (.freshnessTimerExpiry 0) inControl) (fun t =>
      (look t.channels.records 0).stale && (faultRecord .staleSpeed t).active && t.lean.mode == .recover) = true := by
  decide +kernel

/-! ## Transmission and drives -/

theorem test_transmission_completes :
    answers (exec (.transmissionComplete .cockpit) (transmitting quietPart)) (fun t =>
      t.tx.cockpit.sent == 1 && t.tx.cockpit.sending == none && buffer 5 t == Buffer.empty) = true := by
  decide +kernel

theorem test_ack_expiry_retries :
    answers (exec (.ackTimerExpiry .tilt) (awaitingAck .retained quietPart)) (fun t =>
      t.drives.tilt.retries == 1 && t.drives.tilt.misses == 1 && t.tx.chassis.sending == some 4) = true := by
  decide +kernel

/-! ## The lean law and the lock -/

theorem test_cycle_timer_starts_a_blind_cycle :
    answers (exec .cycleTimerExpiry inControl) (fun t =>
      t.lean.counters.blindCycles == 1 && t.lean.timer == some 40) = true := by decide +kernel

/-- Steer 40 and lean per steer 256 give the raw target 40, moved from 0 by a step of 10; with lean 40 and roll rate 40
the command is (64 · (−30) − 32 · 40) ÷ 64 = −50 (R98 to R101). -/
theorem test_cycle_completion_sends_a_tilt_command :
    answers (exec .cycleCompletion (inCycle inControl)) (fun t =>
      t.lean.target == 10 && t.lean.command == -50 && t.lean.reported == 40 && t.tx.chassis.sending == some 0
        && t.drives.tilt.outstanding == some 0 && t.lean.counters.originated == 1) = true := by decide +kernel

theorem test_release_qualify_expiry_lets_the_lock_go :
    let s := inMode .active .engaged quietPart
    answers (exec .releaseQualifyExpiry { s with lock := { s.lock with releaseQualify := some 0 } }) (fun t =>
      t.lock.state == .releasing && !t.lock.output && t.lock.confirm == some 2000) = true := by decide +kernel

/-- A lock whose confirm timer has just expired. -/
def confirmDue (s : State) : State := { s with lock := { s.lock with confirm := some 0 } }

theorem test_confirm_expiry_in_releasing :
    answers (exec .confirmExpiryReleasing (confirmDue (inMode .active .releasing quietPart))) (fun t =>
      t.lock.state == .engaged && t.lock.output && (faultRecord .lockStuck t).active && t.lean.mode == .recover)
      = true := by decide +kernel

theorem test_confirm_expiry_in_engaging :
    answers (exec .confirmExpiryEngaging (confirmDue (inMode .recover .engaging quietPart))) (fun t =>
      t.lock.state == .engaging && (faultRecord .lockNoConfirm t).active) = true := by decide +kernel

theorem test_engage_qualify_expiry_settles :
    let s := inMode .active .free quietPart
    answers (exec .engageQualifyExpiry { s with lock := { s.lock with engageQualify := some 0 } }) (fun t =>
      t.lock.state == .settling && !t.lock.output) = true := by decide +kernel

/-! ## Fault monitor and supply -/

theorem test_status_claim_retry_originates :
    let s := { quietPart with monitor := { quietPart.monitor with retryDue := true, statusWanted := true } }
    answers (exec .statusClaimRetry s) (fun t =>
      t.monitor.statusInHand == some 0 && t.tx.cockpit.sending == some 0 && !t.monitor.retryDue) = true := by
  decide +kernel

theorem test_status_interval_expiry_originates :
    let s := withParam 40 300 { quietPart with monitor := { quietPart.monitor with interval := some 0 } }
    answers (exec .statusIntervalExpiry s) (fun t =>
      t.monitor.statusInHand == some 0 && t.monitor.interval == some 300) = true := by decide +kernel

theorem test_supply_low_and_restored :
    answers (exec .supplyLow quietPart) (fun t =>
      (faultRecord .supplyLow t).active && t.monitor.alert
        && answers (exec .supplyRestored t) (fun u =>
          !(faultRecord .supplyLow u).active && (faultRecord .supplyLow u).latched)) = true := by decide +kernel

/-! ## Requests -/

theorem test_malformed_request :
    answers (exec .malformedRequest (withRequest [7, 99] quietPart)) (replied .badRequest) = true := by decide +kernel

theorem test_read_state :
    answers (exec .readState (withRequest [7, 1] quietPart)) (fun t =>
      replied .done t && frameLength (buffer 2 t).bytes == 21 && t.tx.cockpit.sending == some 2) = true := by
  decide +kernel

theorem test_read_entry :
    answers (exec .readEntry (withRequest [7, 2, 4, 1] quietPart)) (fun t =>
      replied .done t && (framePayload (buffer 2 t).bytes).drop 3 == [4, 1, 0, 50]) = true := by decide +kernel

theorem test_stage_entry :
    answers (exec .stageEntry (withRequest [7, 3, 4, 1, 0, 60] quietPart)) (fun t =>
      replied .done t && t.agent.stage == .param [(1, 60)]) = true := by decide +kernel

/-- A stage of this content. -/
def staging (st : Stage) (s : State) : State := setStage st s

theorem test_discard_stage :
    answers (exec .discardStage (withRequest [7, 4] (staging (.param [(1, 60)]) quietPart))) (fun t =>
      replied .done t && t.agent.stage == .empty) = true := by decide +kernel

/-- The stage that ends open mode with a disabled entry 0 whose action is FORWARD: the sum falls by 5 to 979. -/
def openModeEnder : Stage := .stream [(0, { StreamEntry.atReset with action := .forward })]

theorem test_commit_of_index_0_ends_open_mode :
    answers (exec .commit (withRequest [7, 5, 1, 0x03, 0xD3] (staging openModeEnder quietPart))) (fun t =>
      replied .done t && t.lean.mode == .standby && !t.classifier.openMode && t.agent.stage == .empty) = true := by
  decide +kernel

theorem test_commit_with_a_wrong_sum :
    answers (exec .commit (withRequest [7, 5, 1, 0x03, 0xD4] (staging openModeEnder quietPart))) (fun t =>
      replied .badCheck t && t.agent.counters.badChecks == 1) = true := by decide +kernel

theorem test_read_and_clear_counters :
    answers (exec .readCounters (withRequest [7, 6, 5, 8] quietPart)) (fun t =>
      replied .done t && (framePayload (buffer 2 t).bytes).drop 3 == [5, 8, 2, 0, 0, 0, 0])
      = true
    ∧ answers (exec .clearCounters (withRequest [7, 7, 1] (setRx .cockpit { quietPart.rx.cockpit with good := 9 } quietPart)))
        (fun t => replied .done t && t.rx.cockpit.good == 0) = true := by decide +kernel

theorem test_clear_faults_returns_a_lost_drive :
    let s := setSlot .tilt { DriveSlot.atReset with state := .failed, misses := 5 } quietPart
    answers (exec .clearFaults (withRequest [7, 8] (withFault .lockStuck true (withFault .tiltDriveLost true s))))
      (fun t =>
        replied .done t && t.drives.tilt == DriveSlot.atReset && faultRecord .tiltDriveLost t == FaultRecord.atReset
          && faultRecord .lockStuck t == FaultRecord.atReset) = true := by decide +kernel

theorem test_clear_faults :
    answers (exec .clearFaults (withRequest [7, 8] (withFault .lockSlip false (withFault .staleSpeed true quietPart))))
      (fun t =>
        replied .done t && faultRecord .lockSlip t == FaultRecord.atReset && (faultRecord .staleSpeed t).latched)
      = true := by decide +kernel

theorem test_engage_and_release_control :
    answers (exec .engageControl (withRequest [7, 9] (inMode .standby .engaged inControl))) (fun t =>
      replied .done t && t.lean.mode == .active) = true
    ∧ answers (exec .releaseControl (withRequest [7, 10] inControl)) (fun t =>
        replied .done t && t.lean.mode == .recover) = true := by decide +kernel

/-! ## What meets the hypotheses of the obligations

Each theorem is named after its obligation and shows, for each clause, a state and operands that meet its hypotheses,
at a boundary where the clause has one. -/

theorem witness_IdleStepLetsTimePass :
    quietPart.pending = [] ∧ inReset quietPart = false ∧ quietPart.monitor.retryDue = false := by decide +kernel

/-- The part with a power-on and a pin reset held. -/
def heldTwice : State := { quietPart with resets := { quietPart.resets with power := true, pin := true } }

/-- The part with a pin reset held. -/
def heldOnce : State := { quietPart with resets := { quietPart.resets with pin := true } }

theorem witness_HeldResetTakesNothing :
    inReset heldOnce = true ∧ isResetCommand .cycleCompletion = false
      ∧ resetHeld .power heldTwice.resets = true ∧ ResetKind.pin ≠ .power
      ∧ resetHeld .pin heldTwice.resets = true := by decide +kernel

theorem witness_ResetsBeginAtResetValues :
    heldOnce.resets.power = false ∧ quietPart.resets.pin = false ∧ inReset quietPart = false
      ∧ requestInHand .reset (withRequest [7, 11] quietPart) = some [7, 11]
      ∧ controlMode quietPart.lean.mode = false := by decide +kernel

theorem witness_LastResetEndLeavesResetValues :
    resetHeld .pin heldOnce.resets = true ∧ resetHeld .power heldOnce.resets = false
      ∧ resetHeld .management heldOnce.resets = false := by decide +kernel

theorem witness_FrameStartAndLineFaultEndTheFrame :
    inReset (receiving (sample 1 []) quietPart) = false
      ∧ phaseBuffer (receiving (sample 1 []) quietPart).rx.cockpit.phase = some 3 := by decide +kernel

/-- The cockpit receiver in HEADER. -/
def atHeader (s : State) : State := setPhase .cockpit .header s

theorem witness_LongAndDamagedFramesAreCounted_long :
    inReset (atHeader quietPart) = false ∧ (atHeader quietPart).rx.cockpit.phase = .header
      ∧ 33 ≤ (33 : Byte).toNat ∧ 33 ≤ (255 : Byte).toNat
      ∧ ((setPhase .cockpit (.discarding 35) quietPart).rx.get .cockpit).phase = .discarding 35 := by decide +kernel

/-- At ORIGIN_RESERVE 4 the fifth FREE buffer is the last one an arrival takes (R32). -/
theorem witness_ArrivalClaimKeepsTheReserve :
    inReset (atHeader (fullFrom 5 quietPart)) = false
      ∧ (atHeader (fullFrom 5 quietPart)).rx.cockpit.phase = .header ∧ (32 : Byte).toNat ≤ 32
      ∧ originReserve (fullFrom 5 quietPart) < freeCount (fullFrom 5 quietPart)
      ∧ freeCount (fullFrom 4 quietPart) ≤ originReserve (fullFrom 4 quietPart) := by decide +kernel

theorem witness_LongAndDamagedFramesAreCounted_damaged :
    let s := receiving (sample 1 [0, 9]) quietPart
    inReset s = false ∧ s.rx.cockpit.phase = .body 3 4 ∧ 4 ≤ [0, 9, 0, (0 : Byte)].length
      ∧ checkAgrees (receivedFrame 3 4 [0, 9, 0, 0] s) = false := by decide +kernel

/-- The cockpit port alone in the qualifier of LINK_QUIET. -/
def wasQuiet (s : State) : State :=
  { s with monitor := { s.monitor with quietPorts := { cockpit := true, chassis := false } } }

theorem witness_GoodFrameIsCountedHeardAndClassified :
    let s := receiving (sample 1 [0, 9]) quietPart
    inReset s = false ∧ s.rx.cockpit.phase = .body 3 4 ∧ 4 ≤ ((sample 1 [0, 9]).drop 4).length
      ∧ checkAgrees (receivedFrame 3 4 ((sample 1 [0, 9]).drop 4) s) = true
      ∧ (wasQuiet s).monitor.quietPorts.get .cockpit = true ∧ (wasQuiet s).monitor.quietPorts.get .chassis = false := by
  decide +kernel

/-- Open mode ended, with entry 23 alone matching SAMPLE frames of stream 5. -/
def classified (f : List Byte) : State :=
  let e := { StreamEntry.atReset with enabled := true, base := 5, action := .forward }
  let s := inMode .standby .engaged (putBuffer 3 (heldBuffer f) quietPart)
  { s with classifier := { s.classifier with table := put s.classifier.table 23 e } }

theorem witness_ClassificationTakesTheFirstMatch :
    requestToSelf (buildFrame 5 3840 0 [7, 1]) (classified []) = true
      ∧ requestToSelf (sample 1 []) quietPart = false ∧ quietPart.classifier.openMode = true
      ∧ (classified []).classifier.openMode = false
      ∧ entryMatches (look (classified []).classifier.table 23) .cockpit (sample 1 []) = true
      ∧ (∀ j : Fin 24, j < 23 → entryMatches (look (classified []).classifier.table j) .cockpit (sample 1 []) = false)
      ∧ (∀ i : Fin 24, entryMatches (look (classified []).classifier.table i) .cockpit (buildFrame 1 6 0 []) = false) := by
  decide +kernel

/-- DEFAULT_ACTION is FORWARD after reset; a frame under classification stands HELD in no queue. -/
theorem witness_ActionsDisposeOfTheFrame :
    (∀ a : Action, ({ StreamEntry.atReset with action := a } : StreamEntry).action = a)
      ∧ defaultAction quietPart ≠ 6 ∧ defaultAction (withParam 3 6 quietPart) = 6
      ∧ (buffer 3 (classified (sample 1 []))).state ≠ .free ∧ 3 ∉ queuedTokens (classified (sample 1 [])) :=
  ⟨fun _ => rfl, by decide +kernel, by decide +kernel, by decide +kernel, by decide +kernel⟩

theorem witness_TapIsIdleShortDuplicateOrAccepted :
    (look inControl.channels.table 0).enabled = true ∧ (look inControl.channels.table 15).enabled = false
      ∧ frameLength (sample 8 [0]) < 2 * (look inControl.channels.table 0).offset.val + 2
      ∧ 2 * (look inControl.channels.table 0).offset.val + 2 ≤ frameLength (sample 8 [0, 1])
      ∧ (look inControl.channels.records 0).lastSeq = some (frameSeq (sample 8 [0, 1]))
      ∧ (look inControl.channels.records 0).lastSeq ≠ some (frameSeq (sample 10 [0, 1])) := by decide +kernel

/-- The part ready for control, in STANDBY. -/
def readyPart : State := inMode .standby .engaged inControl

/-- Channel 1 holds ROLL_RATE and channel 4 LOCK_POSITION: one frame can give no signal, either of them, or both. -/
theorem witness_SignalsFollowTheTapsAnchorFirst :
    let given (taps : List Channel) := (tapAll (sample 10 [0, 1]) taps noSignals readyPart).1
    (look readyPart.channels.table 1).enabled = true
      ∧ 2 * (look readyPart.channels.table 1).offset.val + 2 ≤ frameLength (sample 10 [0, 1])
      ∧ (look readyPart.channels.records 1).lastSeq ≠ some (frameSeq (sample 10 [0, 1]))
      ∧ given [0] = { anchor := false, lockPosition := none } ∧ given [1] = { anchor := true, lockPosition := none }
      ∧ given [4] = { anchor := false, lockPosition := some 1 }
      ∧ given [4, 1] = { anchor := true, lockPosition := some 1 } := by decide +kernel

theorem witness_FreshnessAndQuietExpiriesReport_freshness :
    inReset inControl = false ∧ (look inControl.channels.table 0).enabled = true
      ∧ (look inControl.channels.records 0).timer = some 0
      ∧ staleKind (look inControl.channels.table 0).role = some .staleSpeed
      ∧ staleKind (look quietPart.channels.table 0).role = none := by decide +kernel

theorem witness_FreshnessAndQuietExpiriesReport_quiet :
    inReset (quietDue quietPart) = false ∧ ((quietDue quietPart).rx.get .cockpit).quiet = some 0 := by decide +kernel

/-- The cockpit queues with these tokens and this run count. -/
def queueing (urgent waiting : List Token) (run : Byte) (s : State) : State :=
  { s with tx := s.tx.set .cockpit { s.tx.cockpit with priority := urgent, transit := waiting, runCount := run } }

/-- A cockpit TRANSIT queue of the buffers 4 and 5, which arrived 51 and 50 units ago, TRANSIT_AGE being 50; buffer 4
with this retainer. -/
def agedQueue (r : Option Drive) : State :=
  let old (n : Nat) : Buffer := { heldBuffer [] with state := .queued, arrival := n }
  queueing [] [4, 5] 0
    (setSlot .tilt awaitingSlot (putBuffer 4 { old 949 with retainer := r } (putBuffer 5 (old 950) quietPart)))

theorem witness_PickAgesThenChoosesByTheTable :
    (queueing [] [] 4 quietPart).tx.cockpit.priority = []
      ∧ (queueing [5] [6] 3 quietPart).tx.cockpit.runCount.toNat < priorityBurst quietPart
      ∧ priorityBurst quietPart ≤ (queueing [5] [6] 4 quietPart).tx.cockpit.runCount.toNat
      ∧ (queueing [5] [6] 4 quietPart).tx.cockpit.transit = [6]
      ∧ (agedQueue none).tx.cockpit.transit.takeWhile (fun b => transitAge quietPart < age b (agedQueue none)) = [4]
      ∧ (agedQueue none).tx.cockpit.transit.count 4 = 1 ∧ (buffer 4 (agedQueue none)).retainer = none
      ∧ (buffer 4 (agedQueue (some .tilt))).retainer = some .tilt
      ∧ ((agedQueue (some .tilt)).drives.get .tilt).state = .awaiting
      ∧ ((agedQueue (some .tilt)).drives.get .tilt).retained = some 4 := by decide +kernel

theorem witness_TransmissionBeginsWithTheBytesHeld :
    ¬(Port.cockpit = .cockpit ∧ quietPart.monitor.statusInHand = some 5)
      ∧ (Port.cockpit = .cockpit ∧ State.reset.monitor.statusInHand = some 0) := by decide +kernel

/-- TRANSIT_AGE is 50: a buffer that arrived at 950 is not too old at 1000. -/
theorem witness_AddingABufferQueuesOrPicksIt :
    ((transmitting quietPart).tx.get .cockpit).sending ≠ none
      ∧ (quietPart.tx.get .cockpit).sending = none ∧ (quietPart.tx.get .cockpit).priority = []
      ∧ (quietPart.tx.get .cockpit).transit = []
      ∧ age 5 (putBuffer 5 { heldBuffer [] with arrival := 950 } quietPart) = transitAge quietPart := by
  decide +kernel

/-- The TILT slot's buffer 4 in transmission at the chassis port. -/
def sendingCommand : State :=
  let s := awaitingAck .sending quietPart
  { s with tx := s.tx.set .chassis { s.tx.chassis with sending := some 4 } }

theorem witness_TransmissionCompletionSettlesTheBuffer :
    let s := transmitting quietPart
    inReset s = false ∧ (s.tx.get .cockpit).sending = some 5 ∧ 5 ∉ (s.tx.get .cockpit).priority
      ∧ 5 ∉ (s.tx.get .cockpit).transit ∧ s.monitor.statusInHand ≠ some 5 ∧ (buffer 5 s).retainer = none
      ∧ (sendingCommand.tx.get .chassis).sending = some 4 ∧ (buffer 4 sendingCommand).retainer = some .tilt
      ∧ (sendingCommand.drives.get .tilt).state = .awaiting ∧ (sendingCommand.drives.get .tilt).retained = some 4
      ∧ State.reset.monitor.statusInHand = some 0 ∧ State.reset.tx.cockpit.sending = some 0
      ∧ State.reset.monitor.statusWanted = false := by decide +kernel

/-- The start-up status frame of buffer 0 in transmission with status-wanted set: its buffer is released first, so that
the next frame takes it. -/
def statusOverdue : State := { State.reset with monitor := { State.reset.monitor with statusWanted := true } }

theorem witness_TransmissionCompletionSettlesTheBuffer_next :
    inReset statusOverdue = false ∧ (statusOverdue.tx.get .cockpit).sending = some 0
      ∧ statusOverdue.tx.cockpit.priority = [] ∧ statusOverdue.tx.cockpit.transit = []
      ∧ statusOverdue.monitor.statusInHand = some 0 ∧ statusOverdue.monitor.statusWanted = true
      ∧ (buffer 0 statusOverdue).retainer = none ∧ 0 ∉ queuedTokens statusOverdue
      ∧ (buffer 0 (setRetainer 0 (some .tilt) (fullFrom 1 statusOverdue))).retainer ≠ none
      ∧ lowestFree (setRetainer 0 (some .tilt) (fullFrom 1 statusOverdue)) = none := by decide +kernel

theorem test_status_frame_completion_originates_the_next :
    answers (exec (.transmissionComplete .cockpit) statusOverdue) (fun t =>
      t.tx.cockpit.sent == 1 && t.tx.cockpit.sending == some 0 && t.monitor.statusInHand == some 0
        && t.monitor.statusSeq == 2 && !t.monitor.statusWanted && frameSeq (buffer 0 t).bytes == 1) = true := by
  decide +kernel

theorem witness_CyclesStartWithTheirSnapshot_timer :
    inReset inControl = false ∧ inControl.lean.timer = some 0 ∧ inControl.lean.cycle = none
      ∧ inControl.lean.mode = .active ∧ (inMode .recover .free inControl).lean.mode = .recover
      ∧ (inMode .standby .engaged inControl).lean.mode = .standby := by decide +kernel

/-- A cycle in flight and a pending anchor. -/
def inCyclePending : State :=
  let s := inCycle inControl
  { s with lean := { s.lean with pendingAnchor := true } }

theorem witness_AnchorSignalFollowsTheTable :
    inControl.lean.mode ≠ .bridge ∧ inControl.lean.cycle = none ∧ (inCycle inControl).lean.cycle ≠ none
      ∧ (inCycle inControl).lean.pendingAnchor = false ∧ inCyclePending.lean.cycle ≠ none
      ∧ inCyclePending.lean.pendingAnchor = true := by decide +kernel

theorem witness_CyclesStartWithTheirSnapshot_start : inControl.lean.mode ≠ .bridge := by decide +kernel

theorem witness_CycleComputesItsTargetAndCommand :
    inControl.lean.mode = .active ∧ (inMode .recover .settling inControl).lean.mode = .recover := by decide +kernel

theorem witness_CycleComputesItsTargetAndCommand_limits :
    (newCycle .anchor (some 0) inControl).command ≠ 0
      ∧ (inMode .standby .engaged inControl).lean.mode = .standby
      ∧ (inMode .active .engaging inControl).lock.state = .engaging := by decide +kernel

theorem witness_CompletionRecordsTheResultsAndSends :
    inReset (inCycle inControl) = false ∧ (inCycle inControl).lean.cycle = some (newCycle .anchor (some 0) inControl)
      ∧ (newCycle .anchor (some 0) inControl).startMode = .active
      ∧ (newCycle .anchor (some 0) inControl).row ≠ none ∧ inControl.lean.mode ≠ .bridge
      ∧ lowestFree (inCycle inControl) ≠ none ∧ lowestFree (fullFrom 0 (inCycle inControl)) = none
      ∧ (newCycle .anchor none inControl).row = none ∧ inCyclePending.lean.pendingAnchor = true := by decide +kernel

theorem witness_CompletionRecordsTheResultsAndSends_frame :
    PoolAccounted (inCycle inControl) ∧ lowestFree (inCycle inControl) = some 0 := by
  unfold PoolAccounted
  decide +kernel

/-- A cycle of an error of this size, started in ACTIVE. -/
def cycleOfError (e : Int) : Cycle := { newCycle .anchor (some 0) inControl with error := e }

/-- In control with an excursion run one short of its default EXC_COUNT, and EXCURSION at this severity. -/
def excursionDue (w : Word) : State :=
  let s := withParam 29 w inControl
  { s with lean := { s.lean with excursionRun := BitVec.ofNat 8 (excCount inControl - 1) } }

theorem witness_ExcursionIsJudgedInActive :
    (cycleOfError 0).startMode = .active ∧ inControl.lean.mode = .active ∧ readyPart.lean.mode ≠ .active
      ∧ (excThresh inControl : Int) < magnitude (-(excThresh inControl : Int) - 1)
      ∧ magnitude (-(excThresh inControl : Int)) ≤ (excThresh inControl : Int)
      ∧ (bumpByte inControl.lean.excursionRun).toNat < excCount inControl
      ∧ excCount (excursionDue 2) ≤ (bumpByte (excursionDue 2).lean.excursionRun).toNat
      ∧ severity .excursion (excursionDue 0) = 0 ∧ severity .excursion (excursionDue 1) = 1
      ∧ severity .poolExhausted (excursionDue 1) ≤ 1 ∧ 2 ≤ severity .excursion (excursionDue 2)
      ∧ (faultRecord .excursion (excursionDue 2)).active = false := by decide +kernel

theorem witness_SelectionTakesTheBandWithHysteresis :
    (withEnvelope quietPart).envelope.valid = true ∧ envelopeValid (withEnvelope quietPart).envelope.rows = true
      ∧ (look (withEnvelope quietPart).envelope.rows 2).enabled = true
      ∧ selectRow (withEnvelope quietPart).envelope none 400 30 = some 2
      ∧ selectRow (withEnvelope quietPart).envelope (some 0) 430 30 = some 2
      ∧ selectRow (withEnvelope quietPart).envelope (some 2) 370 30 = some 2
      ∧ selectRow (withEnvelope quietPart).envelope (some 2) 369 30 = some 1 := by decide +kernel

theorem witness_RewriteChangesOneWordAndTheCheck :
    4 + frameLength (sample 1 [0, 9]) ≤ (sample 1 [0, 9]).length ∧ 0 + 1 < frameLength (sample 1 [0, 9]) := by
  decide +kernel

/-- Channel 3 is the enabled RIDER_STEER channel at word 0; channel 15 is not enabled. -/
theorem witness_SteerFramesAreShapedOrBypassed :
    let f := buildFrame 2 5 1 [0, 40]
    let s := putBuffer 3 (heldBuffer f) inControl
    let u := tapFrame f [3] s
    u.envelope.valid = true ∧ (look u.channels.table 3).enabled = true ∧ (look u.channels.table 3).role = .riderSteer
      ∧ frameLength f = 2 * (look u.channels.table 3).offset.val + 2 ∧ trackSteer s ≠ 1
      ∧ trackSteer (withParam 22 1 s) = 1 ∧ (tapFrame f [3] quietPart).envelope.valid = false
      ∧ (look (tapFrame f [15] s).channels.table 15).enabled = false
      ∧ (look (tapFrame f [0] s).channels.table 0).role ≠ .riderSteer
      ∧ frameLength (buildFrame 2 5 1 [0]) < 2 * (look u.channels.table 3).offset.val + 2 := by decide +kernel

theorem witness_HandOverTracksSupersedesOrOnlyCounts :
    (quietPart.drives.get .tilt).state = .idle
      ∧ ((setSlot .steer { DriveSlot.atReset with state := .failed } quietPart).drives.get .steer).state = .failed := by
  decide +kernel

/-- MISS_LIMIT is 5: the fifth miss loses the drive; buffer 9 carries the new command. -/
theorem witness_HandOverTracksSupersedesOrOnlyCounts_awaiting :
    (∀ b : BufferState, ((awaitingAck b quietPart).drives.get .tilt).state = .awaiting
      ∧ ((awaitingAck b quietPart).drives.get .tilt).retained = some 4 ∧ (buffer 4 (awaitingAck b quietPart)).state = b)
      ∧ (4 : Token) ≠ 9 ∧ (awaitingSlot.misses + 1 ≠ missLimit quietPart)
      ∧ ({ awaitingSlot with misses := 4 } : DriveSlot).misses + 1 = missLimit quietPart := by
  refine ⟨?_, by decide +kernel, by decide +kernel, by decide +kernel⟩
  intro b
  cases b <;> decide +kernel

theorem witness_AcknowledgementEndsTheCommandOrIsLate :
    let s := awaitingAck .retained quietPart
    let q := awaitingAck .queued quietPart
    2 ≤ [(7 : Byte), 1].length ∧ (s.drives.get .tilt).state = .awaiting
      ∧ (s.drives.get .tilt).outstanding = some (byteAt [7, 1] 0) ∧ byteAt [7, 1] 1 = 1
      ∧ (s.drives.get .tilt).retained = some 4 ∧ (buffer 4 s).state = .retained ∧ (buffer 4 q).state = .queued
      ∧ byteAt [7, 2] 1 ≠ 1 ∧ (s.drives.get .tilt).misses + 1 ≠ missLimit s
      ∧ ((setSlot .tilt { awaitingSlot with misses := 4 } s).drives.get .tilt).misses + 1 = missLimit s
      ∧ [(7 : Byte)].length < 2 ∧ (quietPart.drives.get .tilt).state ≠ .awaiting
      ∧ (s.drives.get .tilt).outstanding ≠ some (byteAt [8, 1] 0) := by decide +kernel

/-- A slot AWAITING with these misses and retries and its ack timer just expired: MISS_LIMIT is 5, RETRY_LIMIT 2. -/
def ackDue (misses retries : Nat) : State :=
  setSlot .tilt { awaitingSlot with misses := misses, retries := retries } (awaitingAck .retained quietPart)

theorem witness_AckExpiryRetriesEndsOrFails :
    inReset (ackDue 4 0) = false ∧ ((ackDue 4 0).drives.get .tilt).state = .awaiting
      ∧ ((ackDue 4 0).drives.get .tilt).timer = some 0 ∧ ((ackDue 4 0).drives.get .tilt).retained = some 4
      ∧ (buffer 4 (ackDue 4 0)).state = .retained
      ∧ ((ackDue 4 0).drives.get .tilt).misses + 1 = missLimit (ackDue 4 0)
      ∧ ((ackDue 3 1).drives.get .tilt).misses + 1 ≠ missLimit (ackDue 3 1)
      ∧ ((ackDue 3 1).drives.get .tilt).retries < retryLimit (ackDue 3 1)
      ∧ (buffer 4 (ackDue 3 1)).egress = some .chassis ∧ 4 ∉ queuedTokens (ackDue 3 1)
      ∧ retryLimit (ackDue 3 2) ≤ ((ackDue 3 2).drives.get .tilt).retries := by decide +kernel

/-- A lock with its qualify timers at 0. -/
def qualifyDue (s : State) : State :=
  { s with lock := { s.lock with releaseQualify := some 0, engageQualify := some 0 } }

theorem witness_LockTimerExpiriesMoveTheLock :
    let e := qualifyDue (inMode .active .engaged quietPart)
    let f := qualifyDue (inMode .active .free quietPart)
    inReset e = false ∧ e.lock.state = .engaged ∧ e.lock.releaseQualify = some 0
      ∧ f.lock.state = .free ∧ f.lock.engageQualify = some 0
      ∧ (confirmDue (inMode .active .releasing quietPart)).lock.confirm = some 0
      ∧ (confirmDue (inMode .active .releasing quietPart)).lock.state = .releasing
      ∧ (confirmDue (inMode .recover .engaging quietPart)).lock.state = .engaging := by decide +kernel

/-- A value equal to LOCK_THRESH reads engaged, one less reads free (R144); each lock state is the state of some part. -/
theorem witness_LockSignalFollowsTheTable :
    (lockThresh quietPart : Int) ≤ (512 : Word).toInt ∧ ¬((lockThresh quietPart : Int) ≤ (511 : Word).toInt)
      ∧ (∀ l : LockState, (inMode .recover l quietPart).lock.state = l ∧ (inMode .recover l quietPart).lean.mode = .recover)
      ∧ severity .lockSlip quietPart ≠ 0 ∧ severity .lockStuck quietPart ≠ 0 ∧ severity .lockNoConfirm quietPart ≠ 0 := by
  refine ⟨by decide +kernel, by decide +kernel, fun l => ⟨rfl, rfl⟩, by decide +kernel⟩

/-- At 300 cm/s and a lean of 20, the default RELEASE_SPEED and UPRIGHT_WIN, the release conditions hold. -/
theorem witness_CompletionReportFollowsTheLockState :
    inControl.lean.mode = .active ∧ (releaseSpeed inControl : Int) ≤ magnitude 300
      ∧ magnitude (-20) ≤ (uprightWin inControl : Int)
      ∧ (∀ k, (faultRecord k inControl).latched = true → severity k inControl < 3)
      ∧ releaseDelay inControl ≠ 0 ∧ inControl.lock.releaseQualify = none
      ∧ (qualifyDue inControl).lock.releaseQualify ≠ none ∧ releaseDelay (withParam 16 0 inControl) = 0
      ∧ quietPart.lean.mode ≠ .active := by
  refine ⟨by decide +kernel, by decide +kernel, by decide +kernel, ?_, by decide +kernel⟩
  intro k hk
  cases k <;> revert hk <;> decide +kernel

/-- The default ENGAGE_SPEED, RELEASE_SPEED and UPRIGHT_WIN are the boundaries; each lock state is the state of some
part. -/
theorem witness_CompletionReportFollowsTheLockState_other :
    (∀ l : LockState, (inMode .active l quietPart).lock.state = l ∧ (inMode .recover l quietPart).lean.mode = .recover)
      ∧ magnitude ((engageSpeed inControl : Int) - 1) < (engageSpeed inControl : Int)
      ∧ ¬(magnitude (engageSpeed inControl) < (engageSpeed inControl : Int))
      ∧ magnitude ((releaseSpeed inControl : Int) - 1) < (releaseSpeed inControl : Int)
      ∧ ((uprightWin inControl : Int) < magnitude ((uprightWin inControl : Int) + 1)) ∧ engageDelay inControl ≠ 0
      ∧ engageDelay (withParam 17 0 inControl) = 0 ∧ inControl.lock.engageQualify = none
      ∧ (qualifyDue inControl).lock.engageQualify ≠ none :=
  ⟨fun _ => ⟨rfl, rfl⟩, by decide +kernel⟩

theorem witness_LeavingActiveReturnsARelease :
    ∀ l : LockState, (inMode .recover l quietPart).lock.state = l := fun _ => rfl

theorem witness_ReportLeavesTheTabledRecord :
    reportedAlong .lockSlip = false ∧ reportedAlong .supplyLow = false := by decide +kernel

theorem witness_GraveReportLeavesActive :
    severity .staleSpeed inControl ≠ 0 ∧ (faultRecord .staleSpeed inControl).active = false
      ∧ 2 ≤ severity .staleSpeed inControl ∧ inControl.lean.mode = .active ∧ LockFollowsMode inControl
      ∧ quietPart.lean.mode ≠ .active ∧ severity .staleRiderSteer (withParam 27 1 quietPart) = 1
      ∧ severity .poolExhausted quietPart ≤ 1 := by
  unfold LockFollowsMode
  decide +kernel

/-- A report of LOCK_SLIP active changes its record, one of LOCK_SLIP inactive does not. -/
theorem witness_FlagChangesWantAStatusFrame :
    severity .lockSlip quietPart ≠ 0 ∧ (faultRecord .lockSlip quietPart).active ≠ true
      ∧ ¬((faultRecord .lockSlip quietPart).active ≠ false) ∧ reportedAlong .lockSlip = false
      ∧ inStatusMask .lockSlip (withParam 42 0xFFFF quietPart) = true
      ∧ inStatusMask .lockSlip (withParam 42 0 quietPart) = false ∧ quietPart.lean.mode ≠ .active
      ∧ severity .lockSlip (withParam 35 1 inControl) = 1 ∧ inStatusMask .excursion (withParam 42 0 inControl) = false
      ∧ severity .excursion (withParam 29 0 inControl) = 0 ∧ (faultRecord .excursion inControl).active = false
      ∧ State.reset.monitor.statusInHand ≠ none ∧ quietPart.monitor.statusInHand = none
      ∧ quietPart.monitor.statusWanted = false ∧ lowestFree quietPart = some 0
      ∧ lowestFree (fullFrom 0 quietPart) = none := by decide +kernel

theorem witness_OriginClaimsAndReleasesAreTold :
    lowestFree (fullFrom 2 quietPart) = some 0 ∧ 0 ∉ queuedTokens (fullFrom 2 quietPart)
      ∧ 2 ≤ freeCount (fullFrom 2 quietPart) ∧ lowestFree (fullFrom 0 quietPart) = none := by decide +kernel

theorem witness_SupplyCrossingsAreReported :
    inReset quietPart = false ∧ quietPart.monitor.supplyLow = false
      ∧ ({ quietPart with monitor := { quietPart.monitor with supplyLow := true } } : State).monitor.supplyLow = true := by
  decide +kernel

/-- A release told with a status frame wanted, in a pool whose last buffer alone is FREE. -/
def toldOfARelease : State :=
  let s := { quietPart with monitor := { quietPart.monitor with retryDue := true, statusWanted := true } }
  { s with
    pool :=
      { s.pool with
        buffers := Vector.ofFn fun t => if t.val = 47 then look s.pool.buffers t else heldBuffer [] } }

theorem witness_StatusFrameIsOriginatedOrWaits :
    inReset toldOfARelease = false ∧ lowestFree toldOfARelease = some 47 ∧ 47 ∉ queuedTokens toldOfARelease
      ∧ lowestFree (fullFrom 0 toldOfARelease) = none
      ∧ toldOfARelease.monitor.statusInHand = none ∧ toldOfARelease.monitor.retryDue = true
      ∧ toldOfARelease.monitor.statusWanted = true ∧ quietPart.monitor.statusWanted = false
      ∧ ({ quietPart with monitor := { quietPart.monitor with interval := some 0 } } : State).monitor.interval = some 0 := by
  decide +kernel

theorem witness_RequestsAreAnsweredAndMalformedOnesRefused_reply :
    let s := withRequest [7, 1] (transmitting quietPart)
    s.agent.inHand = some { request := 1, reply := 2, port := .cockpit } ∧ (1 : Token) ≠ 2
      ∧ s.monitor.statusInHand ≠ some 2 ∧ 2 ∉ (s.tx.get .cockpit).transit ∧ (s.tx.get .cockpit).sending ≠ none := by
  decide +kernel

theorem witness_RequestsAreAnsweredAndMalformedOnesRefused_malformed :
    inReset (withRequest [7] quietPart) = false
      ∧ (withRequest [7] quietPart).agent.inHand = some { request := 1, reply := 2, port := .cockpit }
      ∧ (framePayload (buffer 1 (withRequest [7] quietPart)).bytes).length < 2
      ∧ readRequestCode (byteAt (framePayload (buffer 1 (withRequest [7, 12] quietPart)).bytes) 1) = none
      ∧ readRequestCode 5 = some .commit ∧ [(7 : Byte), 5, 1, 0].length < neededLength .commit [7, 5, 1, 0] := by
  decide +kernel

/-- A request listed in buffer 8 and none in hand. -/
def withListed (s : State) : State :=
  { s with agent := { s.agent with requests := [{ buffer := 8, port := .chassis }] } }

theorem witness_RequestsAreListedBegunAndDropped :
    (withRequest [7, 1] quietPart).agent.inHand ≠ none ∧ quietPart.agent.inHand = none
      ∧ quietPart.agent.requests = [] ∧ (withListed quietPart).agent.requests = [{ buffer := 8, port := .chassis }]
      ∧ lowestFree (withListed quietPart) = some 0 ∧ lowestFree (fullFrom 0 (withListed quietPart)) = none := by
  decide +kernel

theorem witness_ReadsAnswerWhatIsInForce :
    inReset (withRequest [7, 1] quietPart) = false
      ∧ requestInHand .readState (withRequest [7, 1] quietPart) = some [7, 1]
      ∧ requestInHand .readEntry (withRequest [7, 2, 1, 23] quietPart) = some [7, 2, 1, 23]
      ∧ requestInHand .readEntry (withRequest [7, 2, 2, 15] quietPart) = some [7, 2, 2, 15]
      ∧ requestInHand .readEntry (withRequest [7, 2, 3, 11] quietPart) = some [7, 2, 3, 11]
      ∧ requestInHand .readEntry (withRequest [7, 2, 4, 43] quietPart) = some [7, 2, 4, 43]
      ∧ requestInHand .readEntry (withRequest [7, 2, 5, 0] quietPart) = some [7, 2, 5, 0]
      ∧ requestInHand .readEntry (withRequest [7, 2, 4, 44] quietPart) = some [7, 2, 4, 44]
      ∧ readTable 4 = some .param ∧ tableSize .param ≤ (44 : Byte).toNat := by decide +kernel

/-- Eight parameters staged. -/
def eightStaged : List (Fin 44 × Word) :=
  [(0, 4), (1, 50), (2, 4), (3, 1), (4, 30), (5, 2), (6, 5), (7, 40)]

/-- An ENVELOPE commit pending. -/
def withPending (s : State) : State :=
  { s with agent := { s.agent with pendingCommit := some { reply := 6, port := .cockpit, tag := 1, seq := 2 } } }

theorem witness_StageRequestsAreJudgedInOrder_param :
    let s (payload : List Byte) := withRequest payload (staging (.param eightStaged) quietPart)
    inReset (s [7, 3, 4, 43, 0, 0]) = false
      ∧ requestInHand .stageEntry (s [7, 3, 4, 43, 0, 0]) = some [7, 3, 4, 43, 0, 0]
      ∧ neededLength .stageEntry [7, 3, 4, 43, 0, 0] ≤ 6 ∧ (s []).agent.pendingCommit = none
      ∧ (withPending (s [])).agent.pendingCommit.isSome = true
      ∧ neededLength .stageEntry [7, 3, 5, 0] ≤ 4 ∧ readTable 5 = none ∧ 44 ≤ (44 : Byte).toNat
      ∧ paramInRange 43 0 = true ∧ paramInRange 43 1 = false
      ∧ stagedParams (.stream []) = none ∧ stagedParams (s []).agent.stage = some eightStaged
      ∧ stageHolds eightStaged 43 = false ∧ 8 ≤ eightStaged.length ∧ stageHolds eightStaged 7 = true
      ∧ (eightStaged.take 7).length < 8 := by decide +kernel

theorem witness_StageRequestsAreJudgedInOrder_discard :
    inReset (withRequest [7, 4] quietPart) = false
      ∧ requestInHand .discardStage (withRequest [7, 4] quietPart) = some [7, 4]
      ∧ (withRequest [7, 4] quietPart).agent.pendingCommit = none
      ∧ (withPending (withRequest [7, 4] quietPart)).agent.pendingCommit.isSome = true := by decide +kernel

/-- A STAGE_ENTRY of each of the other three tables, with an entry in range and one out of range. -/
theorem witness_StageRequestsAreJudgedInOrder_tables :
    let stream := streamBytes StreamEntry.atReset
    let channel := channelBytes ChannelEntry.atReset
    let row := rowBytes EnvelopeRow.atReset
    let payload (t : Byte) (bs : List Byte) : List Byte := [7, 3, t, 0] ++ bs
    (requestInHand .stageEntry (withRequest (payload 1 stream) quietPart) = some (payload 1 stream)
        ∧ neededLength .stageEntry (payload 1 stream) ≤ (payload 1 stream).length
        ∧ readStreamEntry stream ≠ none ∧ readStreamEntry (stream.map fun _ => 255) = none)
      ∧ (requestInHand .stageEntry (withRequest (payload 2 channel) quietPart) = some (payload 2 channel)
        ∧ neededLength .stageEntry (payload 2 channel) ≤ (payload 2 channel).length
        ∧ readChannelEntry channel ≠ none ∧ readChannelEntry (channel.map fun _ => 255) = none)
      ∧ (requestInHand .stageEntry (withRequest (payload 3 row) quietPart) = some (payload 3 row)
        ∧ neededLength .stageEntry (payload 3 row) ≤ (payload 3 row).length
        ∧ readEnvelopeRow row ≠ none ∧ readEnvelopeRow (row.map fun _ => 255) = none) := by decide +kernel

/-- The one entry of `openModeEnder`. -/
def enderEntries : List (Fin 24 × StreamEntry) := [(0, { StreamEntry.atReset with action := .forward })]

theorem witness_CommitIsJudgedInOrder :
    let s := withRequest [7, 5, 1, 0x03, 0xD3] (staging (.stream enderEntries) quietPart)
    inReset s = false ∧ requestInHand .commit s = some [7, 5, 1, 0x03, 0xD3] ∧ s.agent.pendingCommit = none
      ∧ (withPending s).agent.pendingCommit.isSome = true ∧ readTable 5 = none ∧ readTable 1 = some .stream
      ∧ quietPart.agent.stage = .empty ∧ s.agent.stage ≠ .empty ∧ stageCode s.agent.stage ≠ 2
      ∧ tableSum streamBytes (overlay s.classifier.table enderEntries) = wordAt [7, 5, 1, 0x03, 0xD3] 3
      ∧ tableSum streamBytes (overlay s.classifier.table enderEntries) ≠ wordAt [7, 5, 1, 0x03, 0xD4] 3
      ∧ streamTableValid (overlay s.classifier.table enderEntries) = true
      ∧ streamTableValid (overlay s.classifier.table [(0, { StreamEntry.atReset with action := .shape })]) = false := by
  decide +kernel

/-- A COMMIT of each of the other three tables with the sum that its stage makes, one that its check refuses, and the
modes. -/
theorem witness_CommitIsJudgedInOrder_tables :
    let commit (t : Byte) (sum : Word) (st : Stage) (s : State) := withRequest ([7, 5, t] ++ wordBytes sum) (staging st s)
    let moved : List (Fin 16 × ChannelEntry) := [(0, ChannelEntry.atReset)]
    let spare : List (Fin 16 × ChannelEntry) := [(15, ChannelEntry.atReset)]
    let sum := tableSum channelBytes (overlay inControl.channels.table moved)
    requestInHand .commit (commit 2 sum (.channel moved) inControl) = some ([7, 5, 2] ++ wordBytes sum)
      ∧ sum = wordAt ([7, 5, 2] ++ wordBytes sum) 3
      ∧ channelTableValid (overlay inControl.channels.table moved) = true
      ∧ channelTableValid (overlay inControl.channels.table [(15, look inControl.channels.table 0)]) = false
      ∧ inControl.lean.mode = .active ∧ readyPart.lean.mode = .standby
      ∧ moved.any (fun e => isRequired (look inControl.channels.table e.1).role) = true
      ∧ spare.any (fun e => isRequired (look inControl.channels.table e.1).role || isRequired e.2.role) = false
      ∧ envelopeValid (overlay (withEnvelope quietPart).envelope.rows [(3, EnvelopeRow.atReset)]) = true
      ∧ envelopeValid (overlay (withEnvelope quietPart).envelope.rows [(0, EnvelopeRow.atReset)]) = false
      ∧ paramTableValid (overlay inControl.agent.params eightStaged) = true
      ∧ paramTableValid (overlay inControl.agent.params [(15, 500), (14, 300)]) = false := by decide +kernel

theorem witness_ApplicationPutsTheStagedEntriesInForce :
    (enderEntries.map fun e => e.1.val).Pairwise (· < ·) ∧ stageHolds enderEntries 0 = true
      ∧ stageHolds enderEntries 1 = false
      ∧ look (applyChannel [(0, ChannelEntry.atReset)] inControl).channels.table 0 ≠ look inControl.channels.table 0
      ∧ look (applyChannel [(0, ChannelEntry.atReset)] inControl).channels.table 1 = look inControl.channels.table 1 := by
  decide +kernel

/-- SPEED stays on its stale channel 0 when channel 15 is written, and leaves it when channel 0 is. -/
theorem witness_ApplicationPutsTheStagedEntriesInForce_stale :
    let s := putRecord 0 { look inControl.channels.records 0 with stale := true } inControl
    staleKind .speed = some .staleSpeed ∧ holderOf s.channels.table .speed = some 0
      ∧ holderOf (applyChannel [(15, ChannelEntry.atReset)] s).channels.table .speed = some 0
      ∧ look (applyChannel [(15, ChannelEntry.atReset)] s).channels.table 0 = look s.channels.table 0
      ∧ (look s.channels.records 0).stale = true
      ∧ holderOf (applyChannel [(0, ChannelEntry.atReset)] s).channels.table .speed = none := by decide +kernel

/-- LOCK_SLIP, latched before, is muted by the commit, its bit in STATUS_MASK set. -/
theorem witness_ParamApplicationReachesEveryOwner :
    let s := withParam 42 0xFFFF (withFault .lockSlip false quietPart)
    let t := applyParam [(35, 0)] s
    severity .lockSlip t = 0 ∧ inStatusMask .lockSlip t = true ∧ (faultRecord .lockSlip s).latched = true
      ∧ severity .supplyLow t ≠ 0 ∧ reportedAlong .supplyLow = false ∧ severity .linkQuiet t ≠ 0
      ∧ severity .linkQuiet (applyParam [(39, 0)] s) = 0
      ∧ s.monitor.statusWanted = false ∧ s.monitor.statusInHand = none ∧ lowestFree s = some 0
      ∧ lowestFree (fullFrom 0 s) = none ∧ State.reset.monitor.statusInHand ≠ none
      ∧ statusOverdue.monitor.statusWanted = true ∧ severity .poolExhausted t ≠ 0 := by decide +kernel

theorem witness_EnvelopeCommitIsAppliedOrHeld :
    let s := withRequest [7, 5, 3, 0, 0] (staging (.envelope [(0, look rowsOf48 0)]) inControl)
    s.agent.inHand = some { request := 1, reply := 2, port := .cockpit }
      ∧ s.agent.stage = .envelope [(0, look rowsOf48 0)] ∧ s.agent.pendingCommit = none ∧ s.lean.cycle = none
      ∧ (inCycle s).lean.cycle ≠ none := by decide +kernel

/-- A commit pending on a cycle in flight, its reply in buffer 6. -/
def pendingOnCycle : State :=
  staging (.envelope [(0, look rowsOf48 0)]) (withPending (putBuffer 6 (heldBuffer []) (inCycle inControl)))

theorem witness_EnvelopeCommitIsAppliedOrHeld_completion :
    inReset pendingOnCycle = false ∧ pendingOnCycle.lean.cycle = some (newCycle .anchor (some 0) inControl)
      ∧ pendingOnCycle.agent.pendingCommit = some { reply := 6, port := .cockpit, tag := 1, seq := 2 }
      ∧ pendingOnCycle.agent.stage = .envelope [(0, look rowsOf48 0)] ∧ pendingOnCycle.lean.pendingAnchor = false := by
  decide +kernel

theorem witness_EnvelopeCommitIsAppliedOrHeld_reply :
    PoolAccounted pendingOnCycle ∧ StatusFrameTraced pendingOnCycle := by
  refine ⟨?_, fun t h => absurd (h : (none : Option Token) = some t) (Option.some_ne_none t).symm⟩
  unfold PoolAccounted
  decide +kernel

theorem witness_CounterRequestsReadAndClear :
    inReset quietPart = false ∧ requestInHand .readCounters (withRequest [7, 6, 5, 9] quietPart) = some [7, 6, 5, 9]
      ∧ readGroup 8 = none ∧ readGroup 5 = some .lean ∧ (9 : Byte).toNat < (groupCounters .lean quietPart).length
      ∧ (groupCounters .lean quietPart).length ≤ (10 : Byte).toNat
      ∧ requestInHand .clearCounters (withRequest [7, 7, 7] quietPart) = some [7, 7, 7] ∧ readGroup 7 = some .mgmt := by
  decide +kernel

theorem witness_CounterRequestsReadAndClear_group : CounterGroup.lean ≠ .mgmt ∧ CounterGroup.mgmt ≠ .lean := by decide

theorem witness_ClearFaultsReachesEveryOwner :
    inReset (withRequest [7, 8] quietPart) = false
      ∧ requestInHand .clearFaults (withRequest [7, 8] quietPart) = some [7, 8]
      ∧ ((setSlot .steer { DriveSlot.atReset with state := .failed } quietPart).drives.get .steer).state = .failed
      ∧ (quietPart.drives.get .tilt).state ≠ .failed ∧ reportedAlong .lockSlip = false := by decide +kernel

theorem witness_ClearFaultsReachesEveryOwner_records :
    let u := withParam 42 0xFFFF (withFault .lockSlip false quietPart)
    severity .tiltDriveLost quietPart ≠ 0 ∧ severity .lockStuck quietPart ≠ 0 ∧ severity .poolExhausted quietPart ≤ 1
      ∧ inStatusMask .lockSlip u = true ∧ (faultRecord .lockSlip u).active = false
      ∧ (faultRecord .lockSlip u).latched = true := by decide +kernel

theorem witness_ControlRequestsFollowTheMode_engage :
    let s := withRequest [7, 9] readyPart
    inReset s = false ∧ requestInHand .engageControl s = some [7, 9] ∧ s.lean.mode = .standby
      ∧ s.envelope.valid = true ∧ (∀ r, isRequired r = true → roleReady r s = true) ∧ s.lock.state = .engaged
      ∧ (∀ k, (faultRecord k s).latched = true → severity k s < 2)
      ∧ (faultRecord .lockSlip (withFault .lockSlip false s)).latched = true
      ∧ ¬(severity .lockSlip (withFault .lockSlip false s) < 2)
      ∧ (inMode .bridge .engaged s).lean.mode = .bridge
      ∧ requestInHand .engageControl (withRequest [7, 9] quietPart) = some [7, 9]
      ∧ ¬(quietPart.envelope.valid = true) := by
  refine ⟨by decide +kernel, by decide +kernel, by decide +kernel, by decide +kernel, ?_, by decide +kernel, ?_,
    by decide +kernel⟩
  · intro r hr
    cases r <;> revert hr <;> decide +kernel
  · intro k hk
    cases k <;> revert hk <;> decide +kernel

theorem witness_ControlRequestsFollowTheMode_release :
    inReset (withRequest [7, 10] inControl) = false
      ∧ requestInHand .releaseControl (withRequest [7, 10] inControl) = some [7, 10] ∧ inControl.lean.mode = .active
      ∧ LockFollowsMode inControl
      ∧ requestInHand .releaseControl (withRequest [7, 10] readyPart) = some [7, 10] ∧ readyPart.lean.mode = .standby
      ∧ quietPart.lean.mode = .bridge
      ∧ requestInHand .reset (withRequest [7, 11] inControl) = some [7, 11] := by
  unfold LockFollowsMode
  decide +kernel

/-- One state meets the hypotheses of every invariant: the part after reset, with the step that its empty queue
takes. -/
theorem witness_EveryStepKeeps :
    LockLineRight State.reset ∧ AlertRight State.reset ∧ ActiveIsClean State.reset ∧ LockFollowsMode State.reset
      ∧ TablesPassChecks State.reset ∧ BridgeIsOpenMode State.reset ∧ StageLegal State.reset
      ∧ PoolAccounted State.reset ∧ step State.reset = .next (tick State.reset) := by
  unfold LockLineRight AlertRight ActiveIsClean LockFollowsMode TablesPassChecks BridgeIsOpenMode StageLegal
    PoolAccounted
  refine ⟨?_, ?_, ?_, ?_, ?_, ?_, ?_, ?_, rfl⟩ <;> decide +kernel

theorem witness_EveryStepKeeps_envelope : EnvelopeSound State.reset := by
  refine ⟨by decide +kernel, ?_, ?_⟩
  · intro r h
    exact absurd h (by simp [State.reset, State.resetValues, LeanLaw.atReset])
  · intro h
    exact absurd h (by decide +kernel)

theorem witness_EveryStepKeeps_faults : ActiveImpliesLatched State.reset := by
  intro k
  cases k <;> decide +kernel

theorem witness_EveryStepKeeps_parameters : ParametersLegal State.reset ∧ MissesWithinLimit State.reset := by
  refine ⟨⟨by decide +kernel, ?_⟩, ?_⟩
  · intro es h
    exact absurd h (by simp [State.reset, State.resetValues, Agent.atReset])
  · intro d
    cases d <;> decide +kernel

theorem witness_EveryStepKeeps_retainers : RetainersAgree State.reset ∧ StatusFrameTraced State.reset := by
  have same : ∀ t : Token, (buffer t State.reset).retainer = none := by decide +kernel
  have calm : ∀ t : Token, (buffer t State.reset).state ≠ .retained := by decide +kernel
  refine ⟨⟨?_, ?_, ?_, ?_, ?_⟩, ?_⟩
  · intro t d
    rw [same t]
    cases d <;> simp [State.reset, State.resetValues, DriveSlot.atReset, Drives.get]
  · intro t h
    exact absurd (same t) h
  · intro t h
    exact absurd h (calm t)
  · intro d
    cases d <;> simp [State.reset, State.resetValues, DriveSlot.atReset, Drives.get]
  · intro d h
    exact absurd (by cases d <;> rfl) h
  · intro t h
    have : t = 0 := by
      have h' : (some 0 : Option Token) = some t := h
      exact (Option.some.inj h').symm
    subst this
    exact ⟨Or.inr rfl, same 0⟩

end Sys2Proof.Tests
end

section
/-! PROOF. Matching of a stream entry (R4) and the one disposition of a classified frame (R3, R5, R6, R19). -/

namespace Sys2Proof.Machine

/-! ## The four conditions of a match -/

/-- The ports field, said by its values (R4). -/
theorem portIn_eq_true_iff (p : Port) (ps : PortSet) :
    portIn p ps = true ↔
      ps = .both ∨ (ps = .cockpit ∧ p = .cockpit) ∨ (ps = .chassis ∧ p = .chassis) := by
  cases ps with
  | both => simp [portIn]
  | cockpit => cases p <;> simp [portIn]
  | chassis => cases p <;> simp [portIn]

/-- Stream and base differ at no bit that is clear in mask (R4). -/
theorem streamMatches_eq_true_iff (e : StreamEntry) (stream : BitVec 12) :
    streamMatches e stream = true ↔
      ∀ i, i < 12 → e.mask.getLsbD i = false → stream.getLsbD i = e.base.getLsbD i := by
  have bit (i : Nat) (hi : i < 12) :
      ((stream ^^^ e.base) &&& ~~~e.mask).getLsbD i = (0#12).getLsbD i ↔
        (e.mask.getLsbD i = false → stream.getLsbD i = e.base.getLsbD i) := by
    rw [BitVec.getLsbD_and, BitVec.getLsbD_xor, BitVec.getLsbD_not, BitVec.getLsbD_zero]
    cases hm : e.mask.getLsbD i with
    | true => simp
    | false => simp [hi]
  calc streamMatches e stream = true
      ↔ (stream ^^^ e.base) &&& ~~~e.mask = 0#12 := beq_iff_eq
    _ ↔ ∀ i, i < 12 → ((stream ^^^ e.base) &&& ~~~e.mask).getLsbD i = (0#12).getLsbD i :=
        BitVec.eq_of_getLsbD_eq_iff
    _ ↔ _ := forall₂_congr bit

/-- A match is its four conditions together (R4). -/
theorem entryMatches_eq_true_iff (e : StreamEntry) (p : Port) (frame : List Byte) :
    entryMatches e p frame = true ↔
      e.enabled = true ∧ portIn p e.ports = true ∧ kindIn (frameKind frame) e.kinds = true
        ∧ streamMatches e (frameStream frame) = true := by
  simp only [entryMatches, Bool.and_eq_true, and_assoc]

/-! ## The first match -/

/-- The matched index is the lowest index whose entry matches (R5). -/
theorem matchedIndex_eq_some_iff (table : Vector StreamEntry 24) (p : Port) (frame : List Byte) (i : Fin 24) :
    matchedIndex table p frame = some i ↔
      entryMatches (look table i) p frame = true
        ∧ ∀ j, j < i → entryMatches (look table j) p frame = false := by
  have at_index (j : Fin 24) (h : j.val < (List.finRange 24).length) : (List.finRange 24)[j.val] = j :=
    List.getElem_finRange h
  rw [matchedIndex, List.find?_eq_some_iff_getElem]
  refine and_congr_right fun _ => ⟨?_, fun hfirst => ?_⟩
  · rintro ⟨k, hk, hget, hfirst⟩ j hj
    have hki : k = i.val := congrArg Fin.val ((List.getElem_finRange hk).symm.trans hget)
    subst hki
    have hjfalse := hfirst j.val hj
    rwa [at_index, Bool.not_eq_true'] at hjfalse
  · have hlen : i.val < (List.finRange 24).length := by
      rw [List.length_finRange]
      exact i.isLt
    refine ⟨i.val, hlen, at_index i hlen, fun j hj => ?_⟩
    have hj24 : j < 24 := Nat.lt_trans hj i.isLt
    rw [at_index ⟨j, hj24⟩, Bool.not_eq_true']
    exact hfirst ⟨j, hj24⟩ hj

/-- No index is matched exactly when no entry matches (R6). -/
theorem matchedIndex_eq_none_iff (table : Vector StreamEntry 24) (p : Port) (frame : List Byte) :
    matchedIndex table p frame = none ↔ ∀ i, entryMatches (look table i) p frame = false := by
  rw [matchedIndex, List.find?_eq_none]
  exact ⟨fun h i => eq_false_of_ne_true (h i (List.mem_finRange i)), fun h i _ => ne_true_of_eq_false (h i)⟩

/-- A match is counted on the counter of its own index (R5). -/
@[simp] theorem look_matched_countMatch (i : Fin 24) (s : State) :
    look (countMatch i s).classifier.matched i = bump (look s.classifier.matched i) :=
  look_put_same ..

/-! ## The dispositions of a classification -/

theorem forward_not_urgent (p : Port) (t : Token) (s : State) :
    forward p false t s = enqueue p.opposite .transit t s := rfl

/-- A management request to self goes to the agent, in open mode and outside it (R3). -/
theorem classify_of_requestToSelf {t : Token} {s : State} (p : Port)
    (h : requestToSelf (buffer t s).bytes s = true) : classify p t s = takeRequest t p s := by
  simp [classify, h]

/-- Any other frame is forwarded in open mode (R19). -/
theorem classify_of_openMode {t : Token} {s : State} (p : Port)
    (h : requestToSelf (buffer t s).bytes s = false) (ho : s.classifier.openMode = true) :
    classify p t s = forward p false t s := by
  simp [classify, h, ho]

/-- Outside open mode the matched entry is counted and acts (R5). -/
theorem classify_of_matchedIndex_some {p : Port} {t : Token} {s : State} {i : Fin 24}
    (h : requestToSelf (buffer t s).bytes s = false) (ho : s.classifier.openMode = false)
    (hi : matchedIndex s.classifier.table p (buffer t s).bytes = some i) :
    classify p t s = perform (look s.classifier.table i) p t (countMatch i s) := by
  simp [classify, h, ho, hi]

/-- Outside open mode a frame with no matched entry receives the default action (R6). -/
theorem classify_of_matchedIndex_none {p : Port} {t : Token} {s : State}
    (h : requestToSelf (buffer t s).bytes s = false) (ho : s.classifier.openMode = false)
    (hi : matchedIndex s.classifier.table p (buffer t s).bytes = none) :
    classify p t s = defaultDisposition p t s := by
  simp [classify, h, ho, hi]

/-! ## The obligations -/

/-- Settles O11: each of the four conditions, by its own equivalence. -/
theorem entryMatchesByFourConditions : Obligations.EntryMatchesByFourConditions := by
  intro e p frame
  rw [entryMatches_eq_true_iff, portIn_eq_true_iff, streamMatches_eq_true_iff]

/-- Settles O12: one disposition lemma for each branch of the classification, with the matched index told by the
entries. -/
theorem classificationTakesTheFirstMatch : Obligations.ClassificationTakesTheFirstMatch := by
  intro p b s frame
  refine ⟨classify_of_requestToSelf p, fun hself hopen => ?_, fun hself hopen =>
    ⟨fun i hi hfirst => ⟨?_, look_matched_countMatch i s⟩, fun hnone => ?_⟩⟩
  · rw [classify_of_openMode p hself hopen, forward_not_urgent]
  · have hmatched : matchedIndex s.classifier.table p frame = some i :=
      (matchedIndex_eq_some_iff ..).mpr ⟨hi, hfirst⟩
    exact classify_of_matchedIndex_some hself hopen hmatched
  · have hnoMatch : matchedIndex s.classifier.table p frame = none :=
      (matchedIndex_eq_none_iff ..).mpr hnone
    exact classify_of_matchedIndex_none hself hopen hnoMatch

end Sys2Proof.Machine
end

section
/-! PROOF. A line fault and a frame start (R23, R27), and the claim under the arrival rule (R25, R32). -/

namespace Sys2Proof.Machine

/-- Outside reset a command has its effect (R177). -/
theorem unlessReset_of_not_inReset (f : State → State) {s : State} (h : inReset s = false) :
    unlessReset f s = .next (f s) := by
  simp [unlessReset, h]

/-! ## The receiver and the pool after a cut -/

@[simp] theorem rx_get_setPhase (p : Port) (x : RxPhase) (s : State) :
    (setPhase p x s).rx.get p = { s.rx.get p with phase := x } :=
  ports_get_set_same ..

@[simp] theorem rx_get_countCheckError (p : Port) (s : State) :
    (countCheckError p s).rx.get p = { s.rx.get p with checkError := bump (s.rx.get p).checkError } :=
  ports_get_set_same ..

@[simp] theorem buffer_setPhase (b : Token) (p : Port) (x : RxPhase) (s : State) :
    buffer b (setPhase p x s) = buffer b s := rfl

@[simp] theorem buffer_countCheckError (b : Token) (p : Port) (s : State) :
    buffer b (countCheckError p s) = buffer b s := rfl

theorem setPhase_reception (p : Port) (x : RxPhase) (s : State) : ReceptionOnly p s (setPhase p x s) :=
  setRx_reception p _ s

theorem countCheckError_reception (p : Port) (s : State) : ReceptionOnly p s (countCheckError p s) :=
  setRx_reception p _ s

/-- A cut leaves the receiver IDLE, the frame counted in HEADER and BODY only (R27). -/
theorem rx_get_cutFrame (p : Port) (s : State) :
    (cutFrame p s).rx.get p =
      { s.rx.get p with
        phase := .idle
        checkError :=
          if cutIsCounted (s.rx.get p).phase then bump (s.rx.get p).checkError else (s.rx.get p).checkError } := by
  cases hphase : (s.rx.get p).phase with
  | idle =>
    have hsame : cutFrame p s = s := by simp [cutFrame, hphase]
    simp only [hsame, cutIsCounted, Bool.false_eq_true, if_false]
    rw [← hphase]
  | header => simp [cutFrame, hphase, cutIsCounted]
  | body t n => simp [cutFrame, hphase, cutIsCounted]
  | discarding n => simp [cutFrame, hphase, cutIsCounted]

/-- A cut releases the buffer of a frame in BODY and leaves every other buffer (R27). -/
theorem buffer_cutFrame (b : Token) (p : Port) (s : State) :
    buffer b (cutFrame p s) =
      if phaseBuffer (s.rx.get p).phase = some b then Buffer.empty else buffer b s := by
  cases hphase : (s.rx.get p).phase with
  | idle => simp [cutFrame, hphase, phaseBuffer]
  | header => simp [cutFrame, hphase, phaseBuffer]
  | body t n => simp [cutFrame, hphase, phaseBuffer, buffer_releaseBuffer]
  | discarding n => simp [cutFrame, hphase, phaseBuffer]

theorem cutFrame_reception (p : Port) (s : State) : ReceptionOnly p s (cutFrame p s) := by
  unfold cutFrame
  split
  case h_1 => exact ReceptionOnly.refl p s
  case h_2 => exact (countCheckError_reception p s).trans (setPhase_reception p _ _)
  case h_3 t _ _ =>
    exact ((releaseBuffer_reception p t s).trans (countCheckError_reception p _)).trans (setPhase_reception p _ _)
  case h_4 => exact setPhase_reception p _ s

/-! ## The claim under the arrival rule -/

/-- A test that has come to fail at one index where it passed, and agrees elsewhere, passes at one index fewer. -/
theorem countP_finRange_turned_off {n : Nat} {f g : Fin n → Bool} {a : Fin n} (hf : f a = true) (hg : g a = false)
    (hrest : ∀ c, c ≠ a → g c = f c) : (List.finRange n).countP g + 1 = (List.finRange n).countP f := by
  have hperm := List.perm_cons_erase (List.mem_finRange a)
  have hagree : ((List.finRange n).erase a).countP g = ((List.finRange n).erase a).countP f :=
    List.countP_congr fun c hc => by rw [hrest c ((List.nodup_finRange n).mem_erase_iff.1 hc).1]
  rw [hperm.countP_eq g, hperm.countP_eq f, List.countP_cons_of_pos hf, List.countP_cons_of_neg (by simp [hg]),
    hagree]

/-- A FREE buffer that takes another state lowers the free count by one (R31). -/
theorem freeCount_putBuffer_of_free {b : Token} {x : Buffer} {s : State} (hfree : (buffer b s).state = .free)
    (hx : x.state ≠ .free) : freeCount (putBuffer b x s) + 1 = freeCount s := by
  refine countP_finRange_turned_off (a := b) (by simp [hfree]) (by simp [hx]) fun c hc => ?_
  rw [buffer_putBuffer, if_neg hc.symm]

/-- Some buffer is FREE when the free count is not 0 (R31). -/
theorem lowestFree_of_freeCount_pos {s : State} (h : 0 < freeCount s) : ∃ b, lowestFree s = some b := by
  obtain ⟨b, -, hfree⟩ := List.countP_pos_iff.1 h
  cases hlow : lowestFree s with
  | some c => exact ⟨c, rfl⟩
  | none => exact absurd (by simpa using hfree) (lowestFree_none hlow b)

/-- Above the reserve the claim takes the FREE buffer with the lowest token (R32). -/
theorem arrivalClaim_above_reserve {s : State} (h : originReserve s < freeCount s) :
    ∃ b, arrivalClaim s = some b ∧ lowestFree s = some b := by
  obtain ⟨b, hlow⟩ := lowestFree_of_freeCount_pos (Nat.zero_lt_of_lt h)
  exact ⟨b, by rw [arrivalClaim, if_pos h, hlow], hlow⟩

/-- At the reserve and below the claim is refused (R32). -/
theorem arrivalClaim_at_reserve {s : State} (h : freeCount s ≤ originReserve s) : arrivalClaim s = none := by
  rw [arrivalClaim, if_neg (Nat.not_lt.2 h)]

/-- A header of a frame that is not long, for which a buffer is claimed (R25). -/
theorem headerComplete_of_claim {p : Port} {b0 b1 b2 b3 : Byte} {b : Token} {s : State}
    (hphase : (s.rx.get p).phase = .header) (hlen : b3.toNat ≤ 32) (hclaim : arrivalClaim s = some b) :
    headerComplete p b0 b1 b2 b3 s =
      setPhase p (.body b (b3.toNat + 2)) (receiveInto b p [b0, b1, b2, b3] s) := by
  simp [headerComplete, hphase, Config.longestPayload, Nat.not_lt.2 hlen, hclaim]

/-- A header of a frame that is not long, for which the claim is refused (R25). -/
theorem headerComplete_of_refusal {p : Port} {b0 b1 b2 b3 : Byte} {s : State}
    (hphase : (s.rx.get p).phase = .header) (hlen : b3.toNat ≤ 32) (hclaim : arrivalClaim s = none) :
    headerComplete p b0 b1 b2 b3 s = overrunFrame p b3.toNat s := by
  simp [headerComplete, hphase, Config.longestPayload, Nat.not_lt.2 hlen, hclaim]

/-! ## The obligations -/

/-- Settles O7: a line fault is a cut, and a frame start is a cut followed by HEADER. -/
theorem frameStartAndLineFaultEndTheFrame : Obligations.FrameStartAndLineFaultEndTheFrame := by
  intro p s hreset
  refine ⟨frameStart p s, cutFrame p s, unlessReset_of_not_inReset _ hreset, unlessReset_of_not_inReset _ hreset,
    ?_, rx_get_cutFrame p s, fun b => buffer_cutFrame b p s, fun b => buffer_cutFrame b p s,
    (cutFrame_reception p s).trans (setPhase_reception p _ _), cutFrame_reception p s⟩
  rw [frameStart, rx_get_setPhase, rx_get_cutFrame]

/-- Settles O9: the claim is decided by the reserve, and a header that claims a buffer writes that buffer and its
receiver only. -/
theorem arrivalClaimKeepsTheReserve : Obligations.ArrivalClaimKeepsTheReserve := by
  intro p b0 b1 b2 b3 s hreset hphase hlen
  have hexec : exec (.headerComplete p b0 b1 b2 b3) s = .next (headerComplete p b0 b1 b2 b3 s) :=
    unlessReset_of_not_inReset _ hreset
  refine ⟨fun habove => ?_, fun hrefused => ?_⟩
  · obtain ⟨b, hclaim, hlow⟩ := arrivalClaim_above_reserve habove
    obtain ⟨hfree, hlowest⟩ := lowestFree_spec hlow
    rw [headerComplete_of_claim hphase hlen hclaim] at hexec
    refine ⟨b, _, hexec, hfree, hlowest, buffer_putBuffer_same .., fun c hc => ?_,
      freeCount_putBuffer_of_free hfree (by simp), rfl⟩
    rw [buffer_setPhase, receiveInto, buffer_putBuffer, if_neg hc.symm]
  · rw [hexec, headerComplete_of_refusal hphase hlen (arrivalClaim_at_reserve hrefused)]
    rfl

end Sys2Proof.Machine
end

section
/-! PROOF. A pick: aging along the TRANSIT queue (R41, R43), then the table of the arbiter (R42). -/

namespace Sys2Proof.Machine

@[simp] theorem ports_set_get {α : Type} (x : Ports α) (p : Port) : x.set p (x.get p) = x := by
  cases p <;> rfl

@[simp] theorem ports_set_set {α : Type} (x : Ports α) (p : Port) (a b : α) : (x.set p a).set p b = x.set p b := by
  cases p <;> rfl

theorem ports_set_transit_same {x : Ports Transmitter} {p : Port} {q : List Token} (hq : (x.get p).transit = q) :
    x.set p { x.get p with transit := q } = x := by
  rw [← hq]
  exact ports_set_get x p

@[simp] theorem buffer_setTx (b : Token) (p : Port) (x : Transmitter) (s : State) :
    buffer b (setTx p x s) = buffer b s := rfl

@[simp] theorem releaseBuffer_drives (t : Token) (s : State) : (releaseBuffer t s).drives = s.drives := by
  unfold releaseBuffer noticeRelease
  split <;> rfl

/-! ## What traffic leaves of parameters and slots -/

theorem TrafficOnly.param {s t : State} (h : TrafficOnly s t) (i : Fin 44) : param i t = param i s := by
  rw [Machine.param, h.agent, Machine.param]

theorem TrafficOnly.slot {s t : State} (h : TrafficOnly s t) (d : Drive) :
    t.drives.get d = { s.drives.get d with timer := (t.drives.get d).timer } := by
  cases d with
  | tilt => exact h.tilt
  | steer => exact h.steer

theorem TrafficOnly.slot_state {s t : State} (h : TrafficOnly s t) (d : Drive) :
    (t.drives.get d).state = (s.drives.get d).state := by
  rw [h.slot d]

theorem TrafficOnly.slot_retained {s t : State} (h : TrafficOnly s t) (d : Drive) :
    (t.drives.get d).retained = (s.drives.get d).retained := by
  rw [h.slot d]

/-! ## A slot is told -/

@[simp] theorem tellSlot_tx (d : Drive) (t : Token) (s : State) : (tellSlot d t s).tx = s.tx := by
  unfold tellSlot
  dsimp only
  split <;> rfl

@[simp] theorem buffer_tellSlot (b : Token) (d : Drive) (t : Token) (s : State) :
    buffer b (tellSlot d t s) = buffer b s := by
  unfold tellSlot
  dsimp only
  split <;> rfl

/-- A slot in AWAITING starts its ack timer when it is told of its retained buffer (R130). -/
theorem timer_tellSlot_of_awaiting {d : Drive} {t : Token} {s : State} (hstate : (s.drives.get d).state = .awaiting)
    (hretained : (s.drives.get d).retained = some t) :
    ((tellSlot d t s).drives.get d).timer = some (ackTimeout s) := by
  simp [tellSlot, hstate, hretained]

/-- An ack timer just started stays so when any slot is told. -/
theorem timer_tellSlot_of_started {d : Drive} {s : State} (h : (s.drives.get d).timer = some (ackTimeout s))
    (e : Drive) (t : Token) : ((tellSlot e t s).drives.get d).timer = some (ackTimeout s) := by
  unfold tellSlot
  dsimp only
  split
  · rw [setSlot_drives, drives_get_set]
    split
    · rfl
    · exact h
  · exact h

/-! ## One head taken off -/

/-- The buffer is too old for TRANSIT (R41). -/
def tooOld (s : State) (b : Token) : Bool := decide (transitAge s < age b s)

/-- The transmitter after a head is taken off: `rest` left, one more aged (R41). -/
@[simp] theorem ageOut_tx (p : Port) (t : Token) (rest : List Token) (s : State) :
    (ageOut p t rest s).tx =
      s.tx.set p { s.tx.get p with transit := rest, aged := bump (s.tx.get p).aged } := by
  unfold ageOut
  dsimp only
  split
  · rw [releaseBuffer_tx, setTx_tx]
  · rw [tellSlot_tx]
    rfl

/-- A head with no retainer is released (R43). -/
theorem buffer_ageOut_of_no_retainer {t : Token} {s : State} (h : (buffer t s).retainer = none) (p : Port)
    (rest : List Token) : buffer t (ageOut p t rest s) = Buffer.empty := by
  simp [ageOut, h, buffer_releaseBuffer]

/-- A head with a retainer becomes RETAINED (R43). -/
theorem buffer_ageOut_of_retainer {t : Token} {s : State} {d : Drive} (h : (buffer t s).retainer = some d) (p : Port)
    (rest : List Token) : buffer t (ageOut p t rest s) = { buffer t s with state := .retained } := by
  simp [ageOut, h, buffer_setBufferState]

/-- No other buffer changes when a head is taken off. -/
theorem buffer_ageOut_of_ne {b t : Token} (h : t ≠ b) (p : Port) (rest : List Token) (s : State) :
    buffer b (ageOut p t rest s) = buffer b s := by
  unfold ageOut
  dsimp only
  split
  · rw [buffer_releaseBuffer, if_neg h]
    rfl
  · rw [buffer_tellSlot, buffer_setBufferState, if_neg h]
    rfl

/-- A head taken off for its age counts as too old still: a released buffer has arrival time 0, and a retained one
keeps its own. -/
theorem tooOld_ageOut {t : Token} {s : State} (h : tooOld s t = true) (p : Port) (rest : List Token) :
    tooOld (ageOut p t rest s) = tooOld s := by
  have htraffic := ageOut_traffic p t rest s
  have hlimit : transitAge (ageOut p t rest s) = transitAge s := htraffic.param 1
  funext b
  by_cases hb : t = b
  · subst hb
    cases hretainer : (buffer t s).retainer with
    | none =>
      have hold : transitAge s < s.now - (buffer t s).arrival := of_decide_eq_true h
      have hnow : transitAge s < s.now - 0 := Nat.lt_of_lt_of_le hold (Nat.sub_le_sub_left (Nat.zero_le _) _)
      rw [h, tooOld, age, hlimit, htraffic.now, buffer_ageOut_of_no_retainer hretainer]
      exact decide_eq_true hnow
    | some d =>
      rw [tooOld, age, hlimit, htraffic.now, buffer_ageOut_of_retainer hretainer]
      rfl
  · rw [tooOld, age, hlimit, htraffic.now, buffer_ageOut_of_ne hb]
    rfl

/-- A slot in AWAITING starts its ack timer when its retained buffer is taken off (R43, R130). -/
theorem timer_ageOut_of_awaiting {t : Token} {s : State} {d : Drive} (hretainer : (buffer t s).retainer = some d)
    (hstate : (s.drives.get d).state = .awaiting) (hretained : (s.drives.get d).retained = some t) (p : Port)
    (rest : List Token) : ((ageOut p t rest s).drives.get d).timer = some (ackTimeout s) := by
  simp only [ageOut, hretainer]
  exact timer_tellSlot_of_awaiting hstate hretained

/-- An ack timer just started stays so when a head is taken off. -/
theorem timer_ageOut_of_started {d : Drive} {s : State} (h : (s.drives.get d).timer = some (ackTimeout s))
    (p : Port) (t : Token) (rest : List Token) :
    ((ageOut p t rest s).drives.get d).timer = some (ackTimeout s) := by
  unfold ageOut
  dsimp only
  split
  · rw [releaseBuffer_drives]
    exact h
  · exact timer_tellSlot_of_started (s := setBufferState t .retained (setTx p _ s)) h _ t

/-! ## Aging along the queue -/

theorem ageHeads_cons_of_tooOld {t : Token} {s : State} (h : tooOld s t = true) (p : Port) (rest : List Token) :
    ageHeads p (t :: rest) s = ageHeads p rest (ageOut p t rest s) :=
  if_pos (of_decide_eq_true h)

theorem ageHeads_cons_of_not_tooOld {t : Token} {s : State} (h : tooOld s t = false) (p : Port)
    (rest : List Token) : ageHeads p (t :: rest) s = s :=
  if_neg (of_decide_eq_false h)

theorem repeat_apply_comm {α : Type} (f : α → α) (n : Nat) (a : α) :
    Nat.repeat f n (f a) = f (Nat.repeat f n a) := by
  induction n with
  | zero => rfl
  | succ n ih => exact congrArg f ih

/-- Aging takes the heads that are too old from TRANSIT and counts them, and touches nothing else of the
transmitters (R41). -/
theorem ageHeads_tx {p : Port} {q : List Token} {s : State} (hq : (s.tx.get p).transit = q) :
    (ageHeads p q s).tx =
      s.tx.set p
        { s.tx.get p with
          transit := q.dropWhile (tooOld s)
          aged := Nat.repeat bump (q.takeWhile (tooOld s)).length (s.tx.get p).aged } := by
  induction q generalizing s with
  | nil => exact (ports_set_transit_same hq).symm
  | cons t rest ih =>
    cases hold : tooOld s t with
    | true =>
      rw [ageHeads_cons_of_tooOld hold, ih (by simp), tooOld_ageOut hold, List.dropWhile_cons_of_pos hold,
        List.takeWhile_cons_of_pos hold]
      simp [repeat_apply_comm, Nat.repeat]
    | false =>
      have hkeep : ¬tooOld s t = true := ne_true_of_eq_false hold
      rw [ageHeads_cons_of_not_tooOld hold, List.dropWhile_cons_of_neg hkeep, List.takeWhile_cons_of_neg hkeep]
      exact (ports_set_transit_same hq).symm

theorem buffer_ageHeads_of_notMem {b : Token} {q : List Token} (hb : b ∉ q) (p : Port) (s : State) :
    buffer b (ageHeads p q s) = buffer b s := by
  induction q generalizing s with
  | nil => rfl
  | cons t rest ih =>
    obtain ⟨hne, hrest⟩ := not_or.1 (mt List.mem_cons.2 hb)
    cases hold : tooOld s t with
    | true => rw [ageHeads_cons_of_tooOld hold, ih hrest, buffer_ageOut_of_ne (Ne.symm hne)]
    | false => rw [ageHeads_cons_of_not_tooOld hold]

/-- An ack timer just started stays so along the aging of a queue. -/
theorem timer_ageHeads_of_started {d : Drive} {s : State} (h : (s.drives.get d).timer = some (ackTimeout s))
    (p : Port) (q : List Token) : ((ageHeads p q s).drives.get d).timer = some (ackTimeout s) := by
  induction q generalizing s with
  | nil => exact h
  | cons t rest ih =>
    cases hold : tooOld s t with
    | true =>
      have hlimit : ackTimeout (ageOut p t rest s) = ackTimeout s := (ageOut_traffic p t rest s).param 4
      rw [ageHeads_cons_of_tooOld hold, ← hlimit]
      exact ih (hlimit ▸ timer_ageOut_of_started h p t rest)
    | false => rwa [ageHeads_cons_of_not_tooOld hold]

/-- Aging comes to each head that is too old and stands once in the queue with that buffer as it was, and does not
come to it again. -/
theorem ageHeads_reaches {b : Token} {p : Port} {q : List Token} {s : State}
    (hb : b ∈ q.takeWhile (tooOld s)) (honce : q.count b = 1) :
    ∃ rest u, TrafficOnly s u ∧ buffer b u = buffer b s ∧ b ∉ rest
      ∧ ageHeads p q s = ageHeads p rest (ageOut p b rest u) := by
  induction q generalizing s with
  | nil => exact absurd hb List.not_mem_nil
  | cons t rest ih =>
    cases hold : tooOld s t with
    | false => simp [hold] at hb
    | true =>
      rw [ageHeads_cons_of_tooOld hold]
      by_cases ht : t = b
      · subst ht
        rw [List.count_cons_self, Nat.add_eq_right, List.count_eq_zero] at honce
        exact ⟨rest, s, TrafficOnly.refl s, rfl, honce, rfl⟩
      · rw [List.takeWhile_cons_of_pos hold] at hb
        have hb' := List.mem_of_ne_of_mem (Ne.symm ht) hb
        rw [← tooOld_ageOut hold p rest] at hb'
        obtain ⟨rest', u, htraffic, hbuffer, hrest, hages⟩ := ih hb' (List.count_cons_of_ne ht ▸ honce)
        exact ⟨rest', u, (ageOut_traffic p t rest s).trans htraffic,
          hbuffer.trans (buffer_ageOut_of_ne ht p rest s), hrest, hages⟩

/-- A head taken off with no retainer is released (R43). -/
theorem buffer_ageHeads_of_no_retainer {b : Token} {p : Port} {q : List Token} {s : State}
    (hb : b ∈ q.takeWhile (tooOld s)) (honce : q.count b = 1) (hnone : (buffer b s).retainer = none) :
    buffer b (ageHeads p q s) = Buffer.empty := by
  obtain ⟨rest, u, -, hbuffer, hrest, hages⟩ := ageHeads_reaches (p := p) hb honce
  rw [hages, buffer_ageHeads_of_notMem hrest, buffer_ageOut_of_no_retainer (hbuffer ▸ hnone)]

/-- A head taken off with a retainer becomes RETAINED (R43). -/
theorem buffer_ageHeads_of_retainer {b : Token} {p : Port} {q : List Token} {s : State} {d : Drive}
    (hb : b ∈ q.takeWhile (tooOld s)) (honce : q.count b = 1) (hretainer : (buffer b s).retainer = some d) :
    buffer b (ageHeads p q s) = { buffer b s with state := .retained } := by
  obtain ⟨rest, u, -, hbuffer, hrest, hages⟩ := ageHeads_reaches (p := p) hb honce
  rw [hages, buffer_ageHeads_of_notMem hrest, buffer_ageOut_of_retainer (hbuffer ▸ hretainer), hbuffer]

/-- The slot in AWAITING that retains a head taken off has its ack timer started (R43, R130). -/
theorem timer_ageHeads_of_awaiting {b : Token} {p : Port} {q : List Token} {s : State} {d : Drive}
    (hb : b ∈ q.takeWhile (tooOld s)) (honce : q.count b = 1) (hretainer : (buffer b s).retainer = some d)
    (hstate : (s.drives.get d).state = .awaiting) (hretained : (s.drives.get d).retained = some b) :
    ((ageHeads p q s).drives.get d).timer = some (ackTimeout s) := by
  obtain ⟨rest, u, htraffic, hbuffer, -, hages⟩ := ageHeads_reaches (p := p) hb honce
  have hlimit : ackTimeout (ageOut p b rest u) = ackTimeout s :=
    (htraffic.trans (ageOut_traffic p b rest u)).param 4
  have hstarted : ((ageOut p b rest u).drives.get d).timer = some (ackTimeout u) :=
    timer_ageOut_of_awaiting (hbuffer ▸ hretainer) ((htraffic.slot_state d).trans hstate)
      ((htraffic.slot_retained d).trans hretained) p rest
  have hlimit' : ackTimeout (ageOut p b rest u) = ackTimeout u := (ageOut_traffic p b rest u).param 4
  rw [hages, ← hlimit]
  exact timer_ageHeads_of_started (hlimit' ▸ hstarted) p rest

/-! ## The table of the arbiter -/

/-- The buffer becomes the frame in transmission of its port, and no queue changes (R44). -/
@[simp] theorem beginTransmission_tx (p : Port) (b : Token) (s : State) :
    (beginTransmission p b s).tx = s.tx.set p { s.tx.get p with sending := some b } := by
  unfold beginTransmission
  dsimp only
  split <;> rfl

theorem choose_of_empty {p : Port} {s : State} (hprio : (s.tx.get p).priority = [])
    (htransit : (s.tx.get p).transit = []) : choose p s = s := by
  simp [choose, hprio, htransit]

/-- PRIORITY is chosen when TRANSIT is empty or the run count is below PRIORITY_BURST (R42). -/
theorem choose_of_priority {p : Port} {s : State} {b : Token} {rest : List Token}
    (hprio : (s.tx.get p).priority = b :: rest)
    (h : (s.tx.get p).transit = [] ∨ (s.tx.get p).runCount.toNat < priorityBurst s) :
    choose p s =
      beginTransmission p b
        (setTx p { s.tx.get p with priority := rest, runCount := bumpByte (s.tx.get p).runCount } s) := by
  cases htransit : (s.tx.get p).transit with
  | nil => simp [choose, hprio, htransit]
  | cons u others =>
    have hrun := h.resolve_left (by simp [htransit])
    simp [choose, hprio, htransit, hrun]

/-- TRANSIT is chosen when PRIORITY is empty or the run count has reached PRIORITY_BURST (R42). -/
theorem choose_of_transit {p : Port} {s : State} {b : Token} {rest : List Token}
    (htransit : (s.tx.get p).transit = b :: rest)
    (h : (s.tx.get p).priority = [] ∨ priorityBurst s ≤ (s.tx.get p).runCount.toNat) :
    choose p s = beginTransmission p b (setTx p { s.tx.get p with transit := rest, runCount := 0 } s) := by
  cases hprio : (s.tx.get p).priority with
  | nil => simp [choose, hprio, htransit]
  | cons u others =>
    have hrun := h.resolve_left (by simp [hprio])
    simp [choose, hprio, htransit, Nat.not_lt.2 hrun]

/-! ## The obligation -/

/-- Settles O17: the transmitter after aging by `ageHeads_tx`, each head taken off by the place where aging reaches
it, and the choice by one lemma for each queue. -/
theorem pickAgesThenChoosesByTheTable : Obligations.PickAgesThenChoosesByTheTable := by
  intro p s x tooOldNow
  have htx := ageHeads_tx (p := p) (s := s) rfl
  refine ⟨rfl, ?_, ?_, ?_, ?_,
    fun b hb honce => ⟨fun hnone => ?_, fun d hretainer => ⟨?_, fun hstate hretained => ?_⟩⟩,
    choose_of_empty, fun b rest hprio h => ?_, fun b rest htransit h => ?_⟩
  · rw [htx, ports_get_set_same]
    rfl
  · rw [htx, ports_get_set_same]
    rfl
  · rw [htx, ports_get_set_same]
  · rw [htx, ports_get_set_opposite]
  · exact buffer_ageHeads_of_no_retainer hb honce hnone
  · exact buffer_ageHeads_of_retainer hb honce hretainer
  · exact timer_ageHeads_of_awaiting hb honce hretainer hstate hretained
  · rw [choose_of_priority hprio h]
    simp [x]
  · rw [choose_of_transit htransit h]
    simp [x]

end Sys2Proof.Machine
end

section
/-! PROOF. A tap of a channel: the four ways it is judged (R14, R51 to R53) and the record of an accepted sample (R53,
R55). -/

namespace Sys2Proof.Machine

/-! ## The judgement of a frame -/

theorem wordBeyond_eq_true_iff (offset : Fin 16) (length : Nat) :
    wordBeyond offset length = true ↔ length < 2 * offset.val + 2 :=
  decide_eq_true_iff

/-- There is no gap at the first sequence of a channel and at the next one (R53). -/
theorem isGap_eq_false_iff (last : Option Byte) (seq : Byte) :
    isGap last seq = false ↔ last = none ∨ last = some (seq - 1) := by
  cases last with
  | none => simp [isGap]
  | some l =>
    have hnext : seq = l + 1 ↔ l = seq - 1 := by rw [eq_comm, BitVec.eq_sub_iff_add_eq]
    simpa [isGap] using hnext

/-! ## The record and the stale condition of an accepted sample -/

/-- An accepted sample leaves only the duplicate and short counts of the record before (R53, R55). -/
theorem acceptedRecord_eq (e : ChannelEntry) (r : ChannelRecord) (seq : Byte) (value : Word) :
    acceptedRecord e r seq value =
      { value := some value, lastSeq := some seq, timer := some e.freshness.toNat, stale := false,
        accepted := bump r.accepted,
        gap := if r.lastSeq = none ∨ r.lastSeq = some (seq - 1) then r.gap else bump r.gap,
        duplicate := r.duplicate, short := r.short } := by
  by_cases hnoGap : r.lastSeq = none ∨ r.lastSeq = some (seq - 1)
  · have hgap := (isGap_eq_false_iff ..).2 hnoGap
    rw [if_pos hnoGap]
    simp [acceptedRecord, hgap]
  · have hgap := eq_true_of_ne_false (mt (isGap_eq_false_iff ..).1 hnoGap)
    rw [if_neg hnoGap]
    simp [acceptedRecord, hgap]

@[simp] theorem look_records_putRecord_same (c : Channel) (r : ChannelRecord) (s : State) :
    look (putRecord c r s).channels.records c = r :=
  look_put_same ..

theorem look_records_putRecord_of_ne {c d : Channel} (h : d ≠ c) (r : ChannelRecord) (s : State) :
    look (putRecord c r s).channels.records d = look s.channels.records d :=
  look_put_other _ _ _ _ h.symm

@[simp] theorem severity_putRecord (k : FaultKind) (c : Channel) (r : ChannelRecord) (s : State) :
    severity k (putRecord c r s) = severity k s := rfl

@[simp] theorem reportStaleOf_channels (role : Role) (active : Bool) (s : State) :
    (reportStaleOf role active s).channels = s.channels :=
  (reportStaleOf_reaction role active s).channels

theorem reportStaleOf_of_staleKind {role : Role} {k : FaultKind} (h : staleKind role = some k) (active : Bool)
    (s : State) : reportStaleOf role active s = report k active s := by
  simp [reportStaleOf, h]

/-- No stale kind is one that other reports change along the way. -/
theorem reportedAlong_of_staleKind {role : Role} {k : FaultKind} (h : staleKind role = some k) :
    reportedAlong k = false := by
  cases role <;> cases h <;> rfl

/-- A kind of severity other than 0 is not active after it is reported inactive (R162). -/
theorem active_report_inactive {k : FaultKind} {s : State} (hk : reportedAlong k = false) (h : severity k s ≠ 0) :
    (faultRecord k (report k false s)).active = false := by
  obtain ⟨hrecord, -⟩ := report_record k false s hk
  simp [hrecord, takenRecord, h]

/-! ## The four ways of a tap -/

section
variable {frame : List Byte} {c : Channel} {s : State}

/-- A tap of a channel that is not enabled (R14). -/
theorem tap_of_idle (g : Signals) (h : (look s.channels.table c).enabled = false) :
    tap frame c g s =
      (g, { s with classifier := { s.classifier with tapIdle := bump s.classifier.tapIdle } }) :=
  if_pos h

/-- A tap whose word lies beyond the payload (R51). -/
theorem tap_of_short (g : Signals) (h : (look s.channels.table c).enabled = true)
    (hshort : frameLength frame < 2 * (look s.channels.table c).offset.val + 2) :
    tap frame c g s =
      (g, putRecord c
        { look s.channels.records c with short := bump (look s.channels.records c).short } s) := by
  simp [tap, h, (wordBeyond_eq_true_iff ..).2 hshort]

/-- A tap that is not short and repeats the last sequence (R52). -/
theorem tap_of_duplicate (g : Signals) (h : (look s.channels.table c).enabled = true)
    (hlong : 2 * (look s.channels.table c).offset.val + 2 ≤ frameLength frame)
    (hseq : (look s.channels.records c).lastSeq = some (frameSeq frame)) :
    tap frame c g s =
      (g, putRecord c
        { look s.channels.records c with duplicate := bump (look s.channels.records c).duplicate } s) := by
  have hword := mt (wordBeyond_eq_true_iff ..).1 (Nat.not_lt.2 hlong)
  simp [tap, h, hword, hseq]

/-- Any other tap is accepted (R53): the record is put, the signal of the role raised and its stale condition reported
inactive. -/
theorem tap_of_accepted (g : Signals) (h : (look s.channels.table c).enabled = true)
    (hlong : 2 * (look s.channels.table c).offset.val + 2 ≤ frameLength frame)
    (hseq : (look s.channels.records c).lastSeq ≠ some (frameSeq frame)) :
    tap frame c g s =
      let e := look s.channels.table c
      let value := wordAt (framePayload frame) (2 * e.offset.val)
      (raiseSignal e.role value g,
        reportStaleOf e.role false
          (putRecord c (acceptedRecord e (look s.channels.records c) (frameSeq frame) value) s)) := by
  have hword := mt (wordBeyond_eq_true_iff ..).1 (Nat.not_lt.2 hlong)
  simp [tap, h, hword, hseq]

end

/-! ## The obligation -/

/-- Settles O14: one lemma for each of the four ways of a tap; the report that follows an accepted sample keeps the
channels, so the record put is the one read back. -/
theorem tapIsIdleShortDuplicateOrAccepted : Obligations.TapIsIdleShortDuplicateOrAccepted := by
  intro frame c g s e r t
  refine ⟨tap_of_idle g, tap_of_short g, tap_of_duplicate g, fun henabled hlong hseq => ?_⟩
  have ht : t = reportStaleOf e.role false
      (putRecord c (acceptedRecord e r (frameSeq frame) (wordAt (framePayload frame) (2 * e.offset.val))) s) :=
    congrArg Prod.snd (tap_of_accepted g henabled hlong hseq)
  rw [ht]
  refine ⟨?_, fun d hd => ?_, fun k hk hseverity => ?_⟩
  · rw [reportStaleOf_channels, look_records_putRecord_same, acceptedRecord_eq]
  · rw [reportStaleOf_channels, look_records_putRecord_of_ne hd]
  · rw [reportStaleOf_of_staleKind hk]
    exact active_report_inactive (reportedAlong_of_staleKind hk) hseverity

end Sys2Proof.Machine
end

section
/-! PROOF. The lean target and the tilt command of a cycle: what they are in each start mode and lock state (R98 to
R101) and the limits they keep (R100, R101). -/

namespace Sys2Proof.Machine

/-! ## Arithmetic: a clamp and a move as bounds -/

theorem clampTo_eq_max_min {l : Int} (hl : 0 ≤ l) (x : Int) : clampTo x l = max (-l) (min l x) := by
  unfold clampTo
  omega

theorem moveToward_eq_max_min {step : Int} (hstep : 0 ≤ step) (p q : Int) :
    moveToward p q step = max (p - step) (min (p + step) q) := by
  unfold moveToward
  omega

@[simp] theorem magnitude_zero : magnitude 0 = 0 := rfl

theorem magnitude_clampTo_le {l : Int} (hl : 0 ≤ l) (x : Int) : magnitude (clampTo x l) ≤ l := by
  rw [clampTo_eq_max_min hl, magnitude]
  omega

/-! ## The lean target -/

/-- The raw target follows the steer demand in ACTIVE with the lock FREE or RELEASING, and is 0 otherwise (R98). -/
theorem rawTarget_eq (mode : Mode) (lock : LockState) (steer : Int) (row : EnvelopeRow) :
    rawTarget mode lock steer row =
      if mode = .active ∧ (lock = .free ∨ lock = .releasing) then (steer * (row.leanPerSteer.toNat : Int)).tdiv 256
      else 0 := by
  cases mode <;> cases lock <;> rfl

theorem targetStep_nonneg {recovery : Int} (h : 0 ≤ recovery) (mode : Mode) (lock : LockState) (row : EnvelopeRow) :
    0 ≤ targetStep mode lock recovery row := by
  unfold targetStep
  split
  · exact h
  · exact Int.natCast_nonneg _

section
variable (mode : Mode) (lock : LockState) (previous steer recovery : Int)

theorem leanTarget_of_inControl {mode : Mode} (h : mode = .active ∨ mode = .recover) (r : EnvelopeRow) :
    leanTarget mode lock previous steer recovery (some r) =
      clampTo (moveToward previous (rawTarget mode lock steer r) (targetStep mode lock recovery r))
        (r.leanLimit.toNat : Int) := by
  obtain rfl | rfl := h <;> rfl

theorem leanTarget_of_not_inControl {mode : Mode} (h : ¬(mode = .active ∨ mode = .recover))
    (row : Option EnvelopeRow) : leanTarget mode lock previous steer recovery row = 0 := by
  cases mode with
  | active => exact absurd (.inl rfl) h
  | recover => exact absurd (.inr rfl) h
  | standby | bridge => rfl

@[simp] theorem leanTarget_none : leanTarget mode lock previous steer recovery none = 0 := by
  cases mode <;> rfl

theorem magnitude_leanTarget_le (r : EnvelopeRow) :
    magnitude (leanTarget mode lock previous steer recovery (some r)) ≤ (r.leanLimit.toNat : Int) := by
  have hlimit : 0 ≤ (r.leanLimit.toNat : Int) := Int.natCast_nonneg _
  by_cases hmode : mode = .active ∨ mode = .recover
  · rw [leanTarget_of_inControl _ _ _ _ hmode]
    exact magnitude_clampTo_le hlimit _
  · rwa [leanTarget_of_not_inControl _ _ _ _ hmode, magnitude_zero]

end

/-! ## The tilt command -/

/-- The command before the lock is looked at stays within TILT_MAX (R101, step 3). -/
theorem magnitude_freeCommand_le {limit : Int} (hlimit : 0 ≤ limit) (error omega : Int) (r : EnvelopeRow) :
    magnitude (freeCommand error omega limit r) ≤ limit := by
  unfold freeCommand
  dsimp only
  split
  · rwa [magnitude_zero]
  · exact magnitude_clampTo_le hlimit _

/-- The command before the lock is looked at is 0 or out of the deadband (R101, step 4). -/
theorem deadband_le_magnitude_freeCommand {error omega limit : Int} {r : EnvelopeRow}
    (h : freeCommand error omega limit r ≠ 0) :
    (r.tiltDeadband.toNat : Int) ≤ magnitude (freeCommand error omega limit r) := by
  unfold freeCommand at h ⊢
  dsimp only at h ⊢
  split at h
  · exact absurd rfl h
  next hdeadband =>
    rw [if_neg hdeadband]
    exact Int.not_lt.1 hdeadband

section
variable (mode : Mode) (lock : LockState) (error omega limit : Int)

theorem tiltCommand_of_inControl {mode : Mode} (h : mode = .active ∨ mode = .recover) (r : EnvelopeRow) :
    tiltCommand mode lock error omega limit (some r) =
      if lock = .engaged ∨ lock = .engaging then 0 else freeCommand error omega limit r := by
  obtain rfl | rfl := h <;> rfl

theorem tiltCommand_of_not_inControl {mode : Mode} (h : ¬(mode = .active ∨ mode = .recover))
    (row : Option EnvelopeRow) : tiltCommand mode lock error omega limit row = 0 := by
  cases mode with
  | active => exact absurd (.inl rfl) h
  | recover => exact absurd (.inr rfl) h
  | standby | bridge => rfl

@[simp] theorem tiltCommand_none : tiltCommand mode lock error omega limit none = 0 := by
  cases mode <;> rfl

/-- With the lock ENGAGED or ENGAGING there is no command, whatever the mode and the row (R101, step 1). -/
theorem tiltCommand_of_locked {lock : LockState} (h : lock = .engaged ∨ lock = .engaging)
    (row : Option EnvelopeRow) : tiltCommand mode lock error omega limit row = 0 := by
  cases row with
  | none => exact tiltCommand_none ..
  | some r =>
    by_cases hmode : mode = .active ∨ mode = .recover
    · rw [tiltCommand_of_inControl _ _ _ _ hmode, if_pos h]
    · exact tiltCommand_of_not_inControl _ _ _ _ hmode _

/-- What a command can be: 0, or the one the row gives before the lock is looked at. -/
theorem tiltCommand_eq_zero_or_freeCommand (row : Option EnvelopeRow) :
    tiltCommand mode lock error omega limit row = 0
      ∨ ∃ r, row = some r ∧ tiltCommand mode lock error omega limit row = freeCommand error omega limit r := by
  cases row with
  | none => exact .inl (tiltCommand_none ..)
  | some r =>
    by_cases hlock : lock = .engaged ∨ lock = .engaging
    · exact .inl (tiltCommand_of_locked _ _ _ _ hlock _)
    · by_cases hmode : mode = .active ∨ mode = .recover
      · exact .inr ⟨r, rfl, by rw [tiltCommand_of_inControl _ _ _ _ hmode, if_neg hlock]⟩
      · exact .inl (tiltCommand_of_not_inControl _ _ _ _ hmode _)

theorem magnitude_tiltCommand_le {limit : Int} (hlimit : 0 ≤ limit) (row : Option EnvelopeRow) :
    magnitude (tiltCommand mode lock error omega limit row) ≤ limit := by
  obtain hzero | ⟨r, -, hfree⟩ := tiltCommand_eq_zero_or_freeCommand mode lock error omega limit row
  · rwa [hzero, magnitude_zero]
  · rw [hfree]
    exact magnitude_freeCommand_le hlimit ..

theorem deadband_le_magnitude_tiltCommand {mode : Mode} {lock : LockState} {error omega limit : Int}
    {r : EnvelopeRow} (h : tiltCommand mode lock error omega limit (some r) ≠ 0) :
    (r.tiltDeadband.toNat : Int) ≤ magnitude (tiltCommand mode lock error omega limit (some r)) := by
  obtain hzero | ⟨r', hrow, hfree⟩ := tiltCommand_eq_zero_or_freeCommand mode lock error omega limit (some r)
  · exact absurd hzero h
  · cases hrow
    rw [hfree] at h ⊢
    exact deadband_le_magnitude_freeCommand h

end

/-! ## The cycle -/

section
variable (cause : Cause)

/-- The target of a cycle in control of the lean (R98 to R100). -/
theorem newCycle_target_of_inControl {s : State} (h : s.lean.mode = .active ∨ s.lean.mode = .recover) (r : Fin 12) :
    (newCycle cause (some r) s).target =
      clampTo
        (moveToward s.lean.target
          (rawTarget s.lean.mode s.lock.state (roleValue .riderSteer s) (look s.envelope.rows r))
          (targetStep s.lean.mode s.lock.state (recoveryStep s) (look s.envelope.rows r)))
        ((look s.envelope.rows r).leanLimit.toNat : Int) :=
  leanTarget_of_inControl _ _ _ _ h _

/-- The command of a cycle in control of the lean, from its own target (R101). -/
theorem newCycle_command_of_inControl {s : State} (h : s.lean.mode = .active ∨ s.lean.mode = .recover) (r : Fin 12) :
    (newCycle cause (some r) s).command =
      if s.lock.state = .engaged ∨ s.lock.state = .engaging then 0
      else
        freeCommand ((newCycle cause (some r) s).target - roleValue .leanAngle s) (roleValue .rollRate s) (tiltMax s)
          (look s.envelope.rows r) :=
  tiltCommand_of_inControl _ _ _ _ h _

theorem newCycle_target_eq_zero {row : Option (Fin 12)} {s : State} (h : row = none ∨ s.lean.mode = .standby) :
    (newCycle cause row s).target = 0 := by
  obtain rfl | hstandby := h
  · exact leanTarget_none ..
  · exact leanTarget_of_not_inControl _ _ _ _ (by simp [hstandby]) _

theorem newCycle_command_eq_zero {row : Option (Fin 12)} {s : State}
    (h : row = none ∨ s.lean.mode = .standby ∨ s.lock.state = .engaged ∨ s.lock.state = .engaging) :
    (newCycle cause row s).command = 0 := by
  obtain rfl | hstandby | hlocked := h
  · exact tiltCommand_none ..
  · exact tiltCommand_of_not_inControl _ _ _ _ (by simp [hstandby]) _
  · exact tiltCommand_of_locked _ _ _ _ hlocked _

end

/-! ## The obligation -/

/-- Settles O23: in ACTIVE and RECOVER by what target and command are there, with the clamps and the move as bounds;
the limits, in every mode, by those of `leanTarget` and `tiltCommand`. -/
theorem cycleComputesItsTargetAndCommand : Obligations.CycleComputesItsTargetAndCommand := by
  refine ⟨fun cause r s hmode => ⟨?_, ?_⟩, fun cause row s =>
    ⟨?_, newCycle_target_eq_zero cause, rfl, magnitude_tiltCommand_le _ _ _ _ (Int.natCast_nonneg _) _, ?_,
      newCycle_command_eq_zero cause⟩⟩
  · rw [newCycle_target_of_inControl cause hmode, clampTo_eq_max_min (Int.natCast_nonneg _),
      moveToward_eq_max_min (targetStep_nonneg (Int.natCast_nonneg _) ..), rawTarget_eq]
    rfl
  · rw [newCycle_command_of_inControl cause hmode, freeCommand, clampTo_eq_max_min (Int.natCast_nonneg _)]
    by_cases hlock : s.lock.state = .engaged ∨ s.lock.state = .engaging
    · rw [if_pos hlock, if_pos (or_assoc.1 (.inl hlock))]
    · rw [if_neg hlock]
      exact ite_congr (propext (by rw [← or_assoc, or_iff_right hlock])) (fun _ => rfl) (fun _ => rfl)
  · rintro r rfl
    exact magnitude_leanTarget_le ..
  · rintro r rfl
    exact deadband_le_magnitude_tiltCommand

end Sys2Proof.Machine
end

section
/-! PROOF. The tilt lock: completion reports by lock state (R145, R146, R151, R152, R155), the end of ACTIVE (R150) and
the expiries of the qualify and confirm timers (R147, R149, R151, R153). -/

namespace Sys2Proof.Machine

/-! ## The kinds latched at a severity -/

/-- Every index of the fault table is that of a kind (section 9.1). -/
theorem exists_faultIndex_eq (i : Fin 16) : ∃ k, faultIndex k = i := by
  have hall : ∀ i, i ∈ [FaultKind.staleSpeed, .staleRollRate, .staleLean, .staleRiderSteer, .staleLockPosition,
      .excursion, .cycleOverrun, .tiltDriveLost, .steerDriveLost, .lockStuck, .lockNoConfirm, .lockSlip, .supplyLow,
      .poolExhausted, .demandClamped, .linkQuiet].map faultIndex := by decide
  obtain ⟨k, -, hk⟩ := List.mem_map.1 (hall i)
  exact ⟨k, hk⟩

/-- No kind is latched at a severity when every latched kind lies below it (R166). -/
theorem latchedAtSeverity_eq_false_iff (n : Nat) (s : State) :
    latchedAtSeverity n s = false ↔ ∀ k, (faultRecord k s).latched = true → severity k s < n := by
  have hindex : latchedAtSeverity n s = false ↔
      ∀ i, (look s.monitor.faults i).latched = true → severityAt i s < n := by
    simp [latchedAtSeverity]
  rw [hindex]
  refine ⟨fun h k => h (faultIndex k), fun h i => ?_⟩
  obtain ⟨k, rfl⟩ := exists_faultIndex_eq i
  exact h k

/-! ## A fresh report in ENGAGED, FREE and SETTLING -/

/-- The release conditions are four (R146). -/
theorem releaseConditions_eq_true_iff (speed lean : Int) (s : State) :
    releaseConditions speed lean s = true ↔
      s.lean.mode = .active ∧ (releaseSpeed s : Int) ≤ magnitude speed ∧ magnitude lean ≤ (uprightWin s : Int)
        ∧ ∀ k, (faultRecord k s).latched = true → severity k s < 3 := by
  simp only [releaseConditions, Bool.and_eq_true, Bool.not_eq_true', beq_iff_eq, decide_eq_true_eq,
    latchedAtSeverity_eq_false_iff, and_assoc]

/-- The settle conditions are two alternatives (R151). -/
theorem settleConditions_eq_true_iff (speed : Int) (s : State) :
    settleConditions speed s = true ↔
      magnitude speed < (engageSpeed s : Int)
        ∨ (s.lean.mode ≠ .active ∧ magnitude speed < (releaseSpeed s : Int)) := by
  simp only [settleConditions, Bool.or_eq_true, Bool.and_eq_true, bne_iff_ne, decide_eq_true_eq]

section
variable {speed lean : Int} {s : State}

theorem reportEngaged_of_not_releaseConditions (h : ¬releaseConditions speed lean s = true) :
    reportEngaged speed lean s = { s with lock := { s.lock with releaseQualify := none } } :=
  if_neg h

theorem reportEngaged_of_no_delay (h : releaseConditions speed lean s = true) (hdelay : releaseDelay s = 0) :
    reportEngaged speed lean s = enterReleasing s := by
  rw [reportEngaged, if_pos h, if_pos hdelay]

theorem reportEngaged_of_stopped (h : releaseConditions speed lean s = true) (hdelay : releaseDelay s ≠ 0)
    (htimer : s.lock.releaseQualify = none) :
    reportEngaged speed lean s = { s with lock := { s.lock with releaseQualify := some (releaseDelay s) } } := by
  rw [reportEngaged, if_pos h, if_neg hdelay, if_pos htimer]

theorem reportEngaged_of_running (h : releaseConditions speed lean s = true) (hdelay : releaseDelay s ≠ 0)
    (htimer : s.lock.releaseQualify ≠ none) : reportEngaged speed lean s = s := by
  rw [reportEngaged, if_pos h, if_neg hdelay, if_neg htimer]

theorem reportFree_of_not_settleConditions (h : ¬settleConditions speed s = true) :
    reportFree speed s = { s with lock := { s.lock with engageQualify := none } } :=
  if_neg h

theorem reportFree_of_no_delay (h : settleConditions speed s = true) (hdelay : engageDelay s = 0) :
    reportFree speed s = enterSettling s := by
  rw [reportFree, if_pos h, if_pos hdelay]

theorem reportFree_of_stopped (h : settleConditions speed s = true) (hdelay : engageDelay s ≠ 0)
    (htimer : s.lock.engageQualify = none) :
    reportFree speed s = { s with lock := { s.lock with engageQualify := some (engageDelay s) } } := by
  rw [reportFree, if_pos h, if_neg hdelay, if_pos htimer]

theorem reportFree_of_running (h : settleConditions speed s = true) (hdelay : engageDelay s ≠ 0)
    (htimer : s.lock.engageQualify ≠ none) : reportFree speed s = s := by
  rw [reportFree, if_pos h, if_neg hdelay, if_neg htimer]

theorem reportSettling_of_fast (h : s.lean.mode = .active ∧ (releaseSpeed s : Int) ≤ magnitude speed) :
    reportSettling speed lean s = enterFree s :=
  if_pos h

theorem reportSettling_of_upright (h : ¬(s.lean.mode = .active ∧ (releaseSpeed s : Int) ≤ magnitude speed))
    (hupright : magnitude lean ≤ (uprightWin s : Int)) : reportSettling speed lean s = enterEngaging s := by
  rw [reportSettling, if_neg h, if_pos hupright]

theorem reportSettling_of_leaning (h : ¬(s.lean.mode = .active ∧ (releaseSpeed s : Int) ≤ magnitude speed))
    (hleaning : (uprightWin s : Int) < magnitude lean) : reportSettling speed lean s = s := by
  rw [reportSettling, if_neg h, if_neg (Int.not_le.2 hleaning)]

end

/-! ## The report with its hand-back -/

/-- The hand-back after a judgement that leaves the lean law alone moves RECOVER to STANDBY and no other mode (R155,
R89). -/
theorem handBack_of_same_lean {s u : State} (h : u.lean = s.lean) :
    handBack u = if s.lean.mode = .recover then { u with lean := { u.lean with mode := .standby } } else u := by
  rw [← h]
  cases hmode : u.lean.mode <;> simp [handBack, hmode]

/-- A report in ENGAGED leaves the mode to the hand-back (R146). -/
theorem reportEngaged_lean (speed lean : Int) (s : State) : (reportEngaged speed lean s).lean = s.lean := by
  unfold reportEngaged
  split
  case isTrue =>
    split
    case isTrue => rfl
    case isFalse => split <;> rfl
  case isFalse => rfl

/-- A stale report (R145), handed back in ENGAGED (R155). -/
theorem completionReport_stale (speed lean : Int) (s : State) :
    completionReport speed lean true s =
      if s.lock.state = .engaged ∧ s.lean.mode = .recover then
        { reportStale s with lean := { s.lean with mode := .standby } }
      else reportStale s := by
  cases hlock : s.lock.state with
  | engaged =>
    have hreport : completionReport speed lean true s = handBack (reportStale s) := by simp [completionReport, hlock]
    have hlean : (reportStale s).lean = s.lean := rfl
    simp only [hreport, handBack_of_same_lean hlean, hlean, true_and]
  | releasing | free | settling | engaging => simp [completionReport, hlock]

/-- A fresh report in ENGAGED is judged and handed back (R146, R155). -/
theorem completionReport_fresh_of_engaged (speed lean : Int) {s : State} (h : s.lock.state = .engaged) :
    completionReport speed lean false s = handBack (reportEngaged speed lean s) := by
  simp [completionReport, reportFresh, h]

/-- A fresh report in another lock state is judged only (R145). -/
theorem completionReport_fresh_of_not_engaged (speed lean : Int) {s : State} (h : s.lock.state ≠ .engaged) :
    completionReport speed lean false s = reportFresh speed lean s := by
  cases hlock : s.lock.state with
  | engaged => exact absurd hlock h
  | releasing | free | settling | engaging => simp [completionReport, hlock]

/-! ## The end of ACTIVE and a new latch -/

section
variable {x : Lock}

theorem lockAfterLeaving_of_engaged (h : x.state = .engaged) :
    lockAfterLeaving x = { x with releaseQualify := none } := by
  simp [lockAfterLeaving, h]

theorem lockAfterLeaving_of_releasing (h : x.state = .releasing) :
    lockAfterLeaving x = { x with state := .engaged, output := true, confirm := none } := by
  simp [lockAfterLeaving, h]

theorem lockAfterLeaving_of_other (h : x.state = .free ∨ x.state = .settling ∨ x.state = .engaging) :
    lockAfterLeaving x = x := by
  obtain h | h | h := h <;> simp [lockAfterLeaving, h]

end

/-- The end of ACTIVE changes the lock alone (R150). -/
theorem lockModeLeft_eq (s : State) : lockModeLeft s = { s with lock := lockAfterLeaving s.lock } := by
  cases hlock : s.lock.state <;> simp [lockModeLeft, lockAfterLeaving, hlock]

/-- A step that leaves the lock alone, if the end of ACTIVE would leave it alone: the lock is not RELEASING, and in
ENGAGED no release waits. -/
def KeepsRestingLock (s t : State) : Prop := lockAfterLeaving s.lock = s.lock → t.lock = s.lock

theorem KeepsRestingLock.of_lock {s t : State} (h : t.lock = s.lock) : KeepsRestingLock s t := fun _ => h

theorem KeepsRestingLock.refl (s : State) : KeepsRestingLock s s := .of_lock rfl

theorem KeepsRestingLock.trans {s t u : State} (h : KeepsRestingLock s t) (k : KeepsRestingLock t u) :
    KeepsRestingLock s u := by
  intro hrest
  have hlock := h hrest
  exact (k (by rw [hlock, hrest])).trans hlock

theorem TrafficOnly.keepsRestingLock {s t : State} (h : TrafficOnly s t) : KeepsRestingLock s t := .of_lock h.lock

theorem lockModeLeft_keepsRestingLock (s : State) : KeepsRestingLock s (lockModeLeft s) := by
  intro hrest
  rw [lockModeLeft_eq]
  exact hrest

/-- The release inhibit does to the lock no more than the end of ACTIVE does (R157). -/
theorem lockInhibit_keepsRestingLock (s : State) : KeepsRestingLock s (lockInhibit s) := by
  intro hrest
  cases hlock : s.lock.state with
  | engaged =>
    have hinhibit : (lockInhibit s).lock = { s.lock with releaseQualify := none } := by simp [lockInhibit, hlock]
    rw [hinhibit, ← lockAfterLeaving_of_engaged hlock, hrest]
  | releasing | free | settling | engaging => simp only [lockInhibit, hlock]

/-! ## A report finds a resting lock and leaves it -/

section taking
variable {want : State → State} (hw : ∀ s, KeepsRestingLock s (want s))
include hw

theorem takeInactive_keepsRestingLock (k : FaultKind) (s : State) : KeepsRestingLock s (takeInactive want k s) := by
  have hput : KeepsRestingLock s (putFault k { faultRecord k s with active := false } s) := .of_lock rfl
  unfold takeInactive
  dsimp only
  split
  · exact .refl s
  · split
    · exact hput.trans (hw _)
    · exact hput

theorem leaveActive_keepsRestingLock (s : State) : KeepsRestingLock s (leaveActive want s) := by
  have hmode : KeepsRestingLock s { s with lean := { s.lean with mode := .recover } } := .of_lock rfl
  unfold leaveActive
  split
  · exact (hmode.trans (takeInactive_keepsRestingLock hw .excursion _)).trans (lockModeLeft_keepsRestingLock _)
  all_goals exact .refl s

theorem react_keepsRestingLock (k : FaultKind) (s : State) : KeepsRestingLock s (react want k s) := by
  have htold : KeepsRestingLock s (if 3 ≤ severity k s then lockInhibit s else s) := by
    split
    · exact lockInhibit_keepsRestingLock s
    · exact .refl s
  unfold react
  dsimp only
  split
  · exact htold.trans (leaveActive_keepsRestingLock hw _)
  · exact htold

theorem takeActive_keepsRestingLock (k : FaultKind) (s : State) : KeepsRestingLock s (takeActive want k s) := by
  unfold takeActive
  dsimp only
  split
  · exact .refl s
  · have hput (r : FaultRecord) : KeepsRestingLock s (putFault k r s) := .of_lock rfl
    have hreacted := (hput _).trans (react_keepsRestingLock hw k
      (putFault k { active := true, latched := true, occurrences := bumpByte (faultRecord k s).occurrences } s))
    refine KeepsRestingLock.trans ?_ (.of_lock (judgeAlert_lock _))
    split
    · exact hreacted.trans (hw _)
    · exact hreacted

theorem take_keepsRestingLock (k : FaultKind) (active : Bool) (s : State) :
    KeepsRestingLock s (take want k active s) := by
  unfold take
  split
  · exact takeActive_keepsRestingLock hw k s
  · exact takeInactive_keepsRestingLock hw k s

end taking

theorem setWanted_keepsRestingLock (s : State) : KeepsRestingLock s (setWanted s) := .of_lock (setWanted_lock s)

theorem launchStatus_keepsRestingLock (t : Token) (s : State) : KeepsRestingLock s (launchStatus t s) := by
  unfold launchStatus
  dsimp only
  exact .of_lock (enqueue_traffic _ _ _ _).lock

theorem originateStatus_keepsRestingLock (s : State) : KeepsRestingLock s (originateStatus s) := by
  unfold originateStatus
  split
  · exact ((holdForOrigin_traffic _ s).keepsRestingLock.trans
      (take_keepsRestingLock setWanted_keepsRestingLock _ _ _)).trans (launchStatus_keepsRestingLock _ _)
  · exact (take_keepsRestingLock setWanted_keepsRestingLock .poolExhausted true s).trans (.of_lock rfl)

theorem wantStatus_keepsRestingLock (s : State) : KeepsRestingLock s (wantStatus s) := by
  unfold wantStatus
  split
  · exact .refl s
  · split
    · exact (setWanted_keepsRestingLock s).trans (originateStatus_keepsRestingLock _)
    · exact setWanted_keepsRestingLock s

/-- A report leaves the lock as it is where the end of ACTIVE would (R157, R150). -/
theorem report_keepsRestingLock (k : FaultKind) (active : Bool) (s : State) :
    KeepsRestingLock s (report k active s) :=
  take_keepsRestingLock wantStatus_keepsRestingLock k active s

/-- A lock put at rest and then reported on: the lock is the one put, the record follows the table of R162, and only
what a report touches differs. -/
theorem report_after_resting_lock {k : FaultKind} (hk : reportedAlong k = false) (active : Bool) {x : Lock}
    (hrest : lockAfterLeaving x = x) (s : State) :
    (report k active { s with lock := x }).lock = x
      ∧ faultRecord k (report k active { s with lock := x }) =
          takenRecord (severity k s) active (faultRecord k s)
      ∧ ReactionOnly s (report k active { s with lock := x }) := by
  have hput : ReactionOnly s { s with lock := x } :=
    ⟨⟨rfl, rfl, rfl, rfl, rfl, rfl, rfl, rfl, rfl, rfl, rfl, rfl⟩, rfl, rfl, rfl, rfl, rfl⟩
  obtain ⟨hrecord, -⟩ := report_record k active { s with lock := x } hk
  exact ⟨report_keepsRestingLock k active _ hrest, hrecord, hput.trans (report_reaction k active _)⟩

/-! ## The expiries -/

section
variable {s : State}

theorem timerDue_of_zero {t : Timer} (h : t = some 0) : timerDue t = true := by
  simp [timerDue, h]

theorem releaseQualifyExpiry_of_due (hstate : s.lock.state = .engaged) (hdue : s.lock.releaseQualify = some 0) :
    releaseQualifyExpiry s = enterReleasing s :=
  if_pos ⟨timerDue_of_zero hdue, hstate⟩

theorem engageQualifyExpiry_of_due (hstate : s.lock.state = .free) (hdue : s.lock.engageQualify = some 0) :
    engageQualifyExpiry s = enterSettling s :=
  if_pos ⟨timerDue_of_zero hdue, hstate⟩

theorem confirmExpiryReleasing_of_due (hstate : s.lock.state = .releasing) (hdue : s.lock.confirm = some 0) :
    confirmExpiryReleasing s = report .lockStuck true (enterEngaged s) :=
  if_pos ⟨timerDue_of_zero hdue, hstate⟩

theorem confirmExpiryEngaging_of_due (hstate : s.lock.state = .engaging) (hdue : s.lock.confirm = some 0) :
    confirmExpiryEngaging s = report .lockNoConfirm true { s with lock := { s.lock with confirm := none } } :=
  if_pos ⟨timerDue_of_zero hdue, hstate⟩

end

/-! ## The obligations -/

/-- Settles O35: in each lock state by the equation of its report, with the conditions told by their own
equivalences; the hand-back by the mode, which a report in ENGAGED keeps. -/
theorem completionReportFollowsTheLockState : Obligations.CompletionReportFollowsTheLockState := by
  refine ⟨fun speed lean s => ?_, fun speed lean s => ?_⟩
  · intro hold
    have hiff : releaseConditions speed lean s = true ↔ hold := releaseConditions_eq_true_iff speed lean s
    exact ⟨fun h => reportEngaged_of_not_releaseConditions (mt hiff.1 h),
      fun h => reportEngaged_of_stopped (hiff.2 h),
      fun h => reportEngaged_of_running (hiff.2 h),
      fun h => reportEngaged_of_no_delay (hiff.2 h)⟩
  · intro back settle fresh
    have hiff : settleConditions speed s = true ↔ settle := settleConditions_eq_true_iff speed s
    have hjudged (h : s.lock.state ≠ .engaged) : fresh = reportFresh speed lean s :=
      completionReport_fresh_of_not_engaged speed lean h
    refine ⟨completionReport_stale speed lean s, fun h => ?still, fun h => ?engaged, fun h => ?free,
      fun h => ?settling⟩
    case still =>
      obtain h | h := h <;> rw [hjudged (by simp [h]), reportFresh, h]
    case engaged =>
      have hback : fresh = handBack (reportEngaged speed lean s) := completionReport_fresh_of_engaged speed lean h
      simp only [hback, back, handBack_of_same_lean (reportEngaged_lean speed lean s), h, true_and]
    case free =>
      have hfree : fresh = reportFree speed s := by rw [hjudged (by simp [h]), reportFresh, h]
      rw [hfree]
      exact ⟨fun hc => reportFree_of_not_settleConditions (mt hiff.1 hc),
        fun hc => reportFree_of_stopped (hiff.2 hc),
        fun hc => reportFree_of_running (hiff.2 hc),
        fun hc => reportFree_of_no_delay (hiff.2 hc)⟩
    case settling =>
      have hsettling : fresh = reportSettling speed lean s := by rw [hjudged (by simp [h]), reportFresh, h]
      rw [hsettling]
      exact ⟨fun hmode hspeed => reportSettling_of_fast ⟨hmode, hspeed⟩,
        fun hslow => ⟨reportSettling_of_upright hslow, reportSettling_of_leaning hslow⟩⟩

/-- Settles O33: the qualify timers by their moves; a confirm timer by the report on a lock that is at rest already. -/
theorem lockTimerExpiriesMoveTheLock : Obligations.LockTimerExpiriesMoveTheLock := by
  refine ⟨fun s hreset => ⟨fun hstate hdue => ?_, fun hstate hdue => ?_⟩,
    fun s hreset hdue => ⟨fun hstate => ?_, fun hstate => ?_⟩⟩
  · calc exec .releaseQualifyExpiry s = .next (releaseQualifyExpiry s) := unlessReset_of_not_inReset _ hreset
      _ = .next (enterReleasing s) := by rw [releaseQualifyExpiry_of_due hstate hdue]
  · calc exec .engageQualifyExpiry s = .next (engageQualifyExpiry s) := unlessReset_of_not_inReset _ hreset
      _ = .next (enterSettling s) := by rw [engageQualifyExpiry_of_due hstate hdue]
  · have hexec : exec .confirmExpiryReleasing s = .next (confirmExpiryReleasing s) :=
      unlessReset_of_not_inReset _ hreset
    rw [confirmExpiryReleasing_of_due hstate hdue] at hexec
    exact ⟨_, hexec, report_after_resting_lock rfl true rfl s⟩
  · have hexec : exec .confirmExpiryEngaging s = .next (confirmExpiryEngaging s) :=
      unlessReset_of_not_inReset _ hreset
    rw [confirmExpiryEngaging_of_due hstate hdue] at hexec
    have hrest : lockAfterLeaving { s.lock with confirm := none } = { s.lock with confirm := none } :=
      lockAfterLeaving_of_other (.inr (.inr hstate))
    exact ⟨_, hexec, report_after_resting_lock rfl true hrest s⟩

/-- Settles O36: the end of ACTIVE changes the lock alone, and `lockAfterLeaving` says how in each lock state. -/
theorem leavingActiveReturnsARelease : Obligations.LeavingActiveReturnsARelease := by
  intro s
  rw [lockModeLeft_eq]
  refine ⟨fun h => ?_, fun h => ?_, fun h => ?_⟩
  · rw [lockAfterLeaving_of_engaged h]
  · rw [lockAfterLeaving_of_releasing h]
  · rw [lockAfterLeaving_of_other h]

end Sys2Proof.Machine
end

section
/-! PROOF. A report as a chain of elementary reactions (R162, R165, R166, R170, R171), and what every chain keeps of
mode, lock, ALERT and latches. -/

namespace Sys2Proof.Machine

/-! ## The chain -/

/-- The record of a kind that has just become active (R162). -/
def risen (r : FaultRecord) : FaultRecord :=
  { active := true, latched := true, occurrences := bumpByte r.occurrences }

/-- All that reports and moves to RECOVER are made of. A rise holds what reacts to it, for ALERT is judged after that;
the move to RECOVER holds the report of EXCURSION, for the lock is told after that. -/
inductive Reacts : State → State → Prop
  | refl (s : State) : Reacts s s
  | trans {s t u : State} : Reacts s t → Reacts t u → Reacts s u
  | fall (k : FaultKind) (s : State) : Reacts s (putFault k { faultRecord k s with active := false } s)
  | rise {k : FaultKind} {s t : State} : severity k s ≠ 0 → (faultRecord k s).active = false →
      Reacts (putFault k (risen (faultRecord k s)) s) t → (2 ≤ severity k s → t.lean.mode ≠ .active) →
      Reacts s (judgeAlert t)
  | inhibit (s : State) : Reacts s (lockInhibit s)
  | leave {s t : State} : s.lean.mode = .active → Reacts { s with lean := { s.lean with mode := .recover } } t →
      Reacts s (lockModeLeft t)
  | want (s : State) : Reacts s (setWanted s)
  | originate {s u : State} {b : Token} : lowestFree s = some b → Reacts (holdForOrigin b s) u →
      KeepsStatus (holdForOrigin b s) u → Reacts s (launchStatus b u)
  | notice (s : State) : Reacts s { s with pool := { s.pool with releaseNotice := true } }

@[simp] theorem launchStatus_lean (b : Token) (s : State) : (launchStatus b s).lean = s.lean :=
  (enqueue_traffic ..).lean

@[simp] theorem launchStatus_lock (b : Token) (s : State) : (launchStatus b s).lock = s.lock :=
  (enqueue_traffic ..).lock

@[simp] theorem lockModeLeft_lean (s : State) : (lockModeLeft s).lean = s.lean := by
  rw [lockModeLeft_eq]

@[simp] theorem lockModeLeft_lock (s : State) : (lockModeLeft s).lock = lockAfterLeaving s.lock := by
  rw [lockModeLeft_eq]

/-- The lock as a new latch of severity 3 leaves it (R157). -/
def lockInhibited (x : Lock) : Lock :=
  match x.state with
  | .engaged => { x with releaseQualify := none }
  | .releasing | .free | .settling | .engaging => x

theorem lockInhibit_eq (s : State) : lockInhibit s = { s with lock := lockInhibited s.lock } := by
  cases hlock : s.lock.state <;> simp [lockInhibit, lockInhibited, hlock]

/-- The mode after reports: as before, or RECOVER after ACTIVE (R88). -/
theorem Reacts.mode {s t : State} (h : Reacts s t) :
    t.lean.mode = s.lean.mode ∨ (s.lean.mode = .active ∧ t.lean.mode = .recover) := by
  induction h with
  | refl | fall | want | notice => exact .inl rfl
  | trans _ _ ih ih' =>
    rcases ih with h | ⟨ha, hr⟩
    · rwa [← h]
    · rcases ih' with h' | ⟨ha', -⟩
      · exact .inr ⟨ha, h'.trans hr⟩
      · rw [hr] at ha'
        cases ha'
  | rise _ _ _ _ ih => exact ih
  | inhibit s =>
    rw [lockInhibit_eq]
    exact .inl rfl
  | leave ha _ ih =>
    rw [lockModeLeft_lean]
    exact .inr ⟨ha, ih.elim id And.right⟩
  | originate _ _ _ ih => rwa [launchStatus_lean]

/-- Reports never enter ACTIVE. -/
theorem Reacts.mode_ne_active {s t : State} (h : Reacts s t) (hs : s.lean.mode ≠ .active) : t.lean.mode ≠ .active := by
  rcases h.mode with ht | ⟨ha, -⟩
  · rwa [ht]
  · exact absurd ha hs

section taking
variable {want : State → State} (hw : ∀ s, Reacts s (want s))
include hw

theorem takeInactive_reacts (k : FaultKind) (s : State) : Reacts s (takeInactive want k s) := by
  unfold takeInactive
  dsimp only
  split
  · exact .refl s
  · split
    · exact (Reacts.fall k s).trans (hw _)
    · exact .fall k s

theorem leaveActive_reacts (s : State) : Reacts s (leaveActive want s) := by
  cases hmode : s.lean.mode with
  | active =>
    simp only [leaveActive, hmode]
    exact .leave hmode (takeInactive_reacts hw .excursion _)
  | bridge | standby | recover =>
    simp only [leaveActive, hmode]
    exact .refl s

theorem leaveActive_mode_ne_active (s : State) : (leaveActive want s).lean.mode ≠ .active := by
  cases hmode : s.lean.mode with
  | active =>
    simp only [leaveActive, hmode, lockModeLeft_lean]
    exact (takeInactive_reacts hw .excursion _).mode_ne_active (by simp)
  | bridge | standby | recover => simp [leaveActive, hmode]

theorem react_reacts (k : FaultKind) (s : State) : Reacts s (react want k s) := by
  have told : Reacts s (if 3 ≤ severity k s then lockInhibit s else s) := by
    split
    · exact .inhibit s
    · exact .refl s
  unfold react
  dsimp only
  split
  · exact told.trans (leaveActive_reacts hw _)
  · exact told

/-- A kind of severity 2 or 3 that becomes active ends ACTIVE (R165). -/
theorem react_mode_ne_active {k : FaultKind} {s : State} (h : 2 ≤ severity k s) :
    (react want k s).lean.mode ≠ .active := by
  simp only [react, h, if_true]
  exact leaveActive_mode_ne_active hw _

theorem takeActive_reacts (k : FaultKind) (s : State) : Reacts s (takeActive want k s) := by
  unfold takeActive
  dsimp only
  split
  next => exact .refl s
  next hrises =>
    obtain ⟨hsev, hact⟩ := not_or.1 hrises
    have hreact := react_reacts hw k (putFault k (risen (faultRecord k s)) s)
    have hmode : 2 ≤ severity k s → (react want k (putFault k (risen (faultRecord k s)) s)).lean.mode ≠ .active :=
      fun h => react_mode_ne_active hw h
    split
    · exact .rise hsev (eq_false_of_ne_true hact) (hreact.trans (hw _)) fun h => (hw _).mode_ne_active (hmode h)
    · exact .rise hsev (eq_false_of_ne_true hact) hreact hmode

theorem take_reacts (k : FaultKind) (active : Bool) (s : State) : Reacts s (take want k active s) := by
  unfold take
  split
  · exact takeActive_reacts hw k s
  · exact takeInactive_reacts hw k s

end taking

theorem originateStatus_reacts (s : State) : Reacts s (originateStatus s) := by
  unfold originateStatus
  split
  next b hb => exact .originate hb (take_reacts .want _ _ _) (take_setWanted_keepsStatus ..)
  next => exact (take_reacts .want .poolExhausted true s).trans (.notice _)

theorem wantStatus_reacts (s : State) : Reacts s (wantStatus s) := by
  unfold wantStatus
  split
  · exact .refl s
  · split
    · exact (Reacts.want s).trans (originateStatus_reacts _)
    · exact .want s

theorem report_reacts (k : FaultKind) (active : Bool) (s : State) : Reacts s (report k active s) :=
  take_reacts wantStatus_reacts k active s

theorem moveToRecover_reacts (s : State) : Reacts s (moveToRecover s) :=
  leaveActive_reacts wantStatus_reacts s

/-- A chain of reactions touches what a report touches. -/
theorem Reacts.reactionOnly {s t : State} (h : Reacts s t) : ReactionOnly s t := by
  induction h with
  | refl s => exact .refl s
  | trans _ _ ih ih' => exact ih.trans ih'
  | fall k s => exact putFault_reaction k _ s
  | rise _ _ _ _ ih => exact ((putFault_reaction _ _ _).trans ih).trans (judgeAlert_reaction _)
  | inhibit s => exact lockInhibit_reaction s
  | leave _ _ ih =>
    refine ReactionOnly.trans ?_ (ih.trans (lockModeLeft_reaction _))
    exact ⟨⟨rfl, rfl, rfl, rfl, rfl, rfl, rfl, rfl, rfl, rfl, rfl, rfl⟩, rfl, rfl, rfl, rfl, rfl⟩
  | want s => exact setWanted_reaction s
  | originate _ _ _ ih => exact ((holdForOrigin_traffic _ _).reaction.trans ih).trans (launchStatus_reaction _ _)
  | notice s => exact ⟨⟨rfl, rfl, rfl, rfl, rfl, rfl, rfl, rfl, rfl, rfl, rfl, rfl⟩, rfl, rfl, rfl, rfl, rfl⟩

/-! ## Mode and lock -/

/-- No release waits in a lock state other than ENGAGED (R147). -/
def QualifyOnlyEngaged (x : Lock) : Prop := x.state ≠ .engaged → x.releaseQualify = none

/-- Mode and lock after reports: the mode is as before and the lock at most inhibited, or ACTIVE has ended and the lock
was told of it (R88, R150, R157). -/
def LeavesOrStays (s t : State) : Prop :=
  (t.lean.mode = s.lean.mode ∧ (t.lock = s.lock ∨ t.lock = lockInhibited s.lock))
    ∨ (s.lean.mode = .active ∧ t.lean.mode = .recover ∧ t.lock = lockAfterLeaving s.lock)

theorem lockInhibited_inhibited (x : Lock) : lockInhibited (lockInhibited x) = lockInhibited x := by
  cases h : x.state <;> simp [lockInhibited, h]

theorem lockAfterLeaving_inhibited (x : Lock) : lockAfterLeaving (lockInhibited x) = lockAfterLeaving x := by
  cases h : x.state <;> simp [lockInhibited, lockAfterLeaving, h]

theorem lockInhibited_afterLeaving {x : Lock} (hx : QualifyOnlyEngaged x) :
    lockInhibited (lockAfterLeaving x) = lockAfterLeaving x := by
  cases h : x.state with
  | releasing =>
    have hnone := hx (by simp [h])
    simp [lockInhibited, lockAfterLeaving, h, hnone]
  | engaged | free | settling | engaging => simp [lockInhibited, lockAfterLeaving, h]

theorem QualifyOnlyEngaged.inhibited {x : Lock} (hx : QualifyOnlyEngaged x) : QualifyOnlyEngaged (lockInhibited x) := by
  cases h : x.state with
  | engaged => simp [QualifyOnlyEngaged, lockInhibited, h]
  | releasing | free | settling | engaging => simpa only [lockInhibited, h] using hx

theorem QualifyOnlyEngaged.afterLeaving {x : Lock} (hx : QualifyOnlyEngaged x) :
    QualifyOnlyEngaged (lockAfterLeaving x) := by
  cases h : x.state with
  | engaged | releasing => simp [QualifyOnlyEngaged, lockAfterLeaving, h]
  | free | settling | engaging => simpa only [lockAfterLeaving, h] using hx

theorem LeavesOrStays.refl (s : State) : LeavesOrStays s s := .inl ⟨rfl, .inl rfl⟩

theorem LeavesOrStays.of_eq {s t : State} (hmode : t.lean.mode = s.lean.mode) (hlock : t.lock = s.lock) :
    LeavesOrStays s t := .inl ⟨hmode, .inl hlock⟩

theorem LeavesOrStays.qualify {s t : State} (h : LeavesOrStays s t) (hs : QualifyOnlyEngaged s.lock) :
    QualifyOnlyEngaged t.lock := by
  obtain ⟨-, h | h⟩ | ⟨-, -, h⟩ := h <;> rw [h]
  · exact hs
  · exact hs.inhibited
  · exact hs.afterLeaving

theorem LeavesOrStays.trans {s t u : State} (hs : QualifyOnlyEngaged s.lock) (h : LeavesOrStays s t)
    (k : LeavesOrStays t u) : LeavesOrStays s u := by
  obtain ⟨hmode, hlock⟩ | ⟨ha, hr, hlock⟩ := h
  · obtain ⟨kmode, klock⟩ | ⟨ka, kr, klock⟩ := k
    · refine .inl ⟨kmode.trans hmode, ?_⟩
      obtain hlock | hlock := hlock <;> obtain klock | klock := klock <;> rw [klock, hlock]
      · exact .inl rfl
      · exact .inr rfl
      · exact .inr rfl
      · exact .inr (lockInhibited_inhibited _)
    · refine .inr ⟨hmode ▸ ka, kr, ?_⟩
      obtain hlock | hlock := hlock <;> rw [klock, hlock]
      exact lockAfterLeaving_inhibited _
  · obtain ⟨kmode, klock⟩ | ⟨ka, -, -⟩ := k
    · refine .inr ⟨ha, kmode.trans hr, ?_⟩
      obtain klock | klock := klock <;> rw [klock, hlock]
      exact lockInhibited_afterLeaving hs
    · rw [hr] at ka
      cases ka

/-- Reports leave mode and lock alone but for the release inhibit and the end of ACTIVE. -/
theorem Reacts.leavesOrStays {s t : State} (h : Reacts s t) (hs : QualifyOnlyEngaged s.lock) : LeavesOrStays s t := by
  induction h with
  | refl s => exact .refl s
  | trans _ _ ih ih' => exact (ih hs).trans hs (ih' ((ih hs).qualify hs))
  | fall | want | notice => exact .of_eq rfl rfl
  | rise _ _ _ _ ih => exact ih hs
  | inhibit s =>
    rw [lockInhibit_eq]
    exact .inl ⟨rfl, .inr rfl⟩
  | leave ha _ ih =>
    obtain ⟨hmode, hlock⟩ | ⟨ha', -, -⟩ := ih hs
    · refine .inr ⟨ha, ?_, ?_⟩
      · rw [lockModeLeft_lean, hmode]
      · rw [lockModeLeft_lock]
        obtain hlock | hlock := hlock <;> rw [hlock]
        exact lockAfterLeaving_inhibited _
    · cases ha'
  | originate _ _ _ ih =>
    obtain ⟨hmode, hlock⟩ | h := ih hs
    · exact .inl ⟨by rw [launchStatus_lean, hmode]; rfl, by rwa [launchStatus_lock]⟩
    · exact .inr (by rwa [launchStatus_lean, launchStatus_lock])

/-! ## ALERT and latches -/

theorem any_finRange_congr {f g : Fin 16 → Bool} (h : ∀ i, f i = g i) :
    (List.finRange 16).any f = (List.finRange 16).any g := by
  rw [show f = g from funext h]

/-- Which kinds of ALERT_MASK are latched is told by the latches and the parameters (R168). -/
theorem alertWanted_congr {s t : State} (hparams : t.agent.params = s.agent.params)
    (hlatched : ∀ i, (look t.monitor.faults i).latched = (look s.monitor.faults i).latched) :
    alertWanted t = alertWanted s :=
  any_finRange_congr fun i => by rw [hlatched, alertMask, alertMask, hparams]

/-- Which kinds are latched at a severity is told by the latches and the parameters (R166). -/
theorem latchedAtSeverity_congr {s t : State} (n : Nat) (hparams : t.agent.params = s.agent.params)
    (hlatched : ∀ i, (look t.monitor.faults i).latched = (look s.monitor.faults i).latched) :
    latchedAtSeverity n t = latchedAtSeverity n s :=
  any_finRange_congr fun i => by rw [hlatched, severityAt, severityAt, param, param, hparams]

theorem latched_fall (k : FaultKind) (s : State) (i : Fin 16) :
    (look (putFault k { faultRecord k s with active := false } s).monitor.faults i).latched
      = (look s.monitor.faults i).latched := by
  simp only [putFault, look_put]
  split
  next h => rw [← h]; rfl
  next => rfl

theorem latchedAtSeverity_fall (n : Nat) (k : FaultKind) (s : State) :
    latchedAtSeverity n (putFault k { faultRecord k s with active := false } s) = latchedAtSeverity n s :=
  latchedAtSeverity_congr n rfl (latched_fall k s)

/-- ALERT follows the latches outside reset (R168). -/
def AlertFollows (s : State) : Prop := s.monitor.alert = alertWanted s

theorem AlertFollows.of_latches {s t : State} (halert : t.monitor.alert = s.monitor.alert)
    (hparams : t.agent.params = s.agent.params)
    (hlatched : ∀ i, (look t.monitor.faults i).latched = (look s.monitor.faults i).latched) (h : AlertFollows s) :
    AlertFollows t := by
  rw [AlertFollows, halert, alertWanted_congr hparams hlatched]
  exact h

theorem launchStatus_alert (b : Token) (s : State) : (launchStatus b s).monitor.alert = s.monitor.alert :=
  (enqueue_traffic ..).alert

theorem Reacts.params {s t : State} (h : Reacts s t) : t.agent.params = s.agent.params := by
  rw [h.reactionOnly.agent]

/-- Reports keep ALERT as the latches give it: every rise ends with its judgement (R162, R168). -/
theorem Reacts.alertFollows {s t : State} (h : Reacts s t) (hs : AlertFollows s) : AlertFollows t := by
  induction h with
  | refl | want | notice => exact hs
  | trans _ _ ih ih' => exact ih' (ih hs)
  | fall k s => exact hs.of_latches (s := s) rfl rfl (latched_fall k s)
  | rise => exact rfl
  | inhibit s =>
    rw [lockInhibit_eq]
    exact hs
  | leave _ _ ih =>
    rw [lockModeLeft_eq]
    exact ih hs
  | originate _ _ _ ih =>
    exact (ih hs).of_latches (launchStatus_alert _ _) (by rw [(launchStatus_reaction _ _).agent])
      fun i => by rw [launchStatus_faults]

/-- A kind whose severity is below `n` adds nothing to the kinds latched at `n`. -/
theorem latchedAtSeverity_putFault {k : FaultKind} {n : Nat} {s : State} (hsev : severity k s < n) (r : FaultRecord) :
    latchedAtSeverity n (putFault k r s) = latchedAtSeverity n s := by
  refine any_finRange_congr fun i => ?_
  by_cases hi : faultIndex k = i
  · subst hi
    have hlow : ¬n ≤ severityAt (faultIndex k) s := Nat.not_le.2 hsev
    have hsame : severityAt (faultIndex k) (putFault k r s) = severityAt (faultIndex k) s := rfl
    simp [hsame, hlow]
  · simp only [putFault, look_put_other _ _ _ _ hi]
    rfl

/-- While the mode stays ACTIVE, reports latch no kind of severity 2 or 3 (R165). -/
theorem Reacts.activeIsClean {s t : State} (h : Reacts s t) (hs : ActiveIsClean s) : ActiveIsClean t := by
  induction h with
  | refl | want | notice => exact hs
  | trans _ _ ih ih' => exact ih' (ih hs)
  | fall k s => exact fun hm => (latchedAtSeverity_fall 2 k s).trans (hs hm)
  | @rise k s t _ _ h hgrave ih =>
    intro hm
    have hlow : severity k s < 2 := Nat.lt_of_not_le fun hle => hgrave hle hm
    exact ih (fun ha => (latchedAtSeverity_putFault hlow _).trans (hs ha)) hm
  | inhibit s =>
    rw [lockInhibit_eq]
    exact hs
  | leave _ h _ =>
    intro hm
    rw [lockModeLeft_lean] at hm
    exact absurd hm (h.mode_ne_active (by simp))
  | originate _ _ _ ih =>
    intro hm
    rw [launchStatus_lean] at hm
    exact (latchedAtSeverity_congr 2 (by rw [(launchStatus_reaction _ _).agent])
      fun i => by rw [launchStatus_faults]).trans (ih hs hm)

theorem ActiveImpliesLatched.of_faults {s t : State} (h : t.monitor.faults = s.monitor.faults)
    (hs : ActiveImpliesLatched s) : ActiveImpliesLatched t := by
  intro k
  rw [faultRecord_of_faults h]
  exact hs k

theorem ActiveImpliesLatched.putFault {k : FaultKind} {r : FaultRecord} {s : State} (hs : ActiveImpliesLatched s)
    (hr : r.active = true → r.latched = true) : ActiveImpliesLatched (putFault k r s) := by
  intro j
  rw [faultRecord_putFault]
  split
  · exact hr
  · exact hs j

/-- Reports keep it that an active kind is latched (R162). -/
theorem Reacts.activeImpliesLatched {s t : State} (h : Reacts s t) (hs : ActiveImpliesLatched s) :
    ActiveImpliesLatched t := by
  induction h with
  | refl | want | notice => exact hs
  | trans _ _ ih ih' => exact ih' (ih hs)
  | fall k s => exact hs.putFault (by simp)
  | rise _ _ _ _ ih => exact ih (hs.putFault fun _ => rfl)
  | inhibit s =>
    rw [lockInhibit_eq]
    exact hs
  | leave _ _ ih =>
    rw [lockModeLeft_eq]
    exact ih hs
  | originate _ _ _ ih => exact (ih hs).of_faults (launchStatus_faults _ _)

end Sys2Proof.Machine
end

section
/-! PROOF. What every command outside reset keeps (R90, R146, R147, R156, R162, R168, R17, R49, R72, R77, R86, R135,
R186, R198): one relation, walked once along all operations. -/

namespace Sys2Proof.Machine

/-! ## The relation -/

/-- LOCK with the lock state, and the lock with the mode. -/
def LockSound (s : State) : Prop := LockLineRight s ∧ LockFollowsMode s

/-- The tables in force, the envelope with its row, and BRIDGE with open mode. -/
def TablesSound (s : State) : Prop := TablesPassChecks s ∧ EnvelopeSound s ∧ BridgeIsOpenMode s

/-- The stage, the parameters and the miss counts. -/
def StageSound (s : State) : Prop := StageLegal s ∧ ParametersLegal s ∧ MissesWithinLimit s

theorem LockSound.mode {s : State} (h : LockSound s) : LockFollowsMode s := h.2

theorem StageSound.params {s : State} (h : StageSound s) : ParametersLegal s := h.2.1

/-- What an effect outside reset leaves of the model's own fields and of the invariants. -/
structure Keeps (s t : State) : Prop where
  pending : t.pending = s.pending
  now : t.now = s.now
  freeIndex : t.freeIndex = s.freeIndex
  resets : t.resets = s.resets
  alert : AlertFollows s → AlertFollows t
  clean : ActiveIsClean s → ActiveIsClean t
  latched : ActiveImpliesLatched s → ActiveImpliesLatched t
  lock : LockSound s → LockSound t
  tables : TablesSound s → TablesSound t
  stage : StageSound s → StageSound t

theorem Keeps.refl (s : State) : Keeps s s := ⟨rfl, rfl, rfl, rfl, id, id, id, id, id, id⟩

theorem Keeps.trans {s t u : State} (h : Keeps s t) (k : Keeps t u) : Keeps s u :=
  ⟨k.pending.trans h.pending, k.now.trans h.now, k.freeIndex.trans h.freeIndex, k.resets.trans h.resets,
    k.alert ∘ h.alert, k.clean ∘ h.clean, k.latched ∘ h.latched, k.lock ∘ h.lock, k.tables ∘ h.tables,
    k.stage ∘ h.stage⟩

/-- Transitivity with the later effect named first. -/
theorem Keeps.after {s t u : State} (k : Keeps t u) (h : Keeps s t) : Keeps s u := h.trans k

/-! ## What the invariants depend on -/

theorem LockSound.of_eq {s t : State} (hlock : t.lock = s.lock) (hmode : t.lean.mode = s.lean.mode)
    (h : LockSound s) : LockSound t := by
  obtain ⟨hline, hfollows⟩ := h
  exact ⟨by rwa [LockLineRight, hlock], by rwa [LockFollowsMode, hlock, hmode]⟩

/-- The tables, parameters, stage, envelope and selected row are as before. -/
structure SameTables (s t : State) : Prop where
  channels : t.channels.table = s.channels.table
  streams : t.classifier.table = s.classifier.table
  openMode : t.classifier.openMode = s.classifier.openMode
  envelope : t.envelope = s.envelope
  row : t.lean.row = s.lean.row
  stage : t.agent.stage = s.agent.stage
  pendingCommit : t.agent.pendingCommit = s.agent.pendingCommit
  params : t.agent.params = s.agent.params

theorem TablesSound.of_same {s t : State} (hsame : SameTables s t)
    (hmode : t.lean.mode = .bridge ↔ s.lean.mode = .bridge) (h : TablesSound s) : TablesSound t := by
  obtain ⟨⟨hchannels, hstreams, hparams⟩, ⟨hvalid, hrow, hcommit⟩, hbridge⟩ := h
  refine ⟨⟨by rwa [hsame.channels], by rwa [hsame.streams], by rwa [hsame.params]⟩,
    ⟨by rwa [hsame.envelope], by rwa [hsame.row, hsame.envelope], ?_⟩, ?_⟩
  · rwa [hsame.pendingCommit, stageMakesEnvelope, hsame.stage, hsame.envelope]
  · rwa [BridgeIsOpenMode, hmode, hsame.openMode]

theorem missLimit_of_params {s t : State} (h : t.agent.params = s.agent.params) : missLimit t = missLimit s := by
  rw [missLimit, missLimit, param, param, h]

/-- The misses of a slot fit a limit (R128, R135). -/
def SlotWithin (limit : Nat) (x : DriveSlot) : Prop :=
  x.misses ≤ limit ∧ (x.state ≠ .failed → x.misses < limit)

theorem StageSound.of_eq {s t : State} (hstage : t.agent.stage = s.agent.stage)
    (hparams : t.agent.params = s.agent.params)
    (hslots : ∀ d, SlotWithin (missLimit s) (s.drives.get d) → SlotWithin (missLimit s) (t.drives.get d))
    (h : StageSound s) : StageSound t := by
  obtain ⟨hlegal, hin, hmisses⟩ := h
  refine ⟨by rwa [StageLegal, hstage], by rwa [ParametersLegal, hstage, hparams], fun d => ?_⟩
  rw [missLimit_of_params hparams]
  exact hslots d (hmisses d)

/-! ## Effects that none of the invariants sees -/

/-- Nothing that an invariant of `Keeps` reads has changed. -/
structure Quiet (s t : State) : Prop extends SameTables s t where
  pending : t.pending = s.pending
  now : t.now = s.now
  freeIndex : t.freeIndex = s.freeIndex
  resets : t.resets = s.resets
  mode : t.lean.mode = s.lean.mode
  lock : t.lock = s.lock
  faults : t.monitor.faults = s.monitor.faults
  alert : t.monitor.alert = s.monitor.alert
  tilt : t.drives.tilt.state = s.drives.tilt.state ∧ t.drives.tilt.misses = s.drives.tilt.misses
  steer : t.drives.steer.state = s.drives.steer.state ∧ t.drives.steer.misses = s.drives.steer.misses

theorem SlotWithin.of_eq {limit : Nat} {x y : DriveSlot} (h : y.state = x.state ∧ y.misses = x.misses)
    (hx : SlotWithin limit x) : SlotWithin limit y := by
  rwa [SlotWithin, h.1, h.2]

theorem Quiet.keeps {s t : State} (h : Quiet s t) : Keeps s t where
  pending := h.pending
  now := h.now
  freeIndex := h.freeIndex
  resets := h.resets
  alert := AlertFollows.of_latches h.alert h.params fun i => by rw [h.faults]
  clean hs hm := (latchedAtSeverity_congr 2 h.params fun i => by rw [h.faults]).trans (hs (h.mode ▸ hm))
  latched := ActiveImpliesLatched.of_faults h.faults
  lock := LockSound.of_eq h.lock h.mode
  tables := TablesSound.of_same h.toSameTables (by rw [h.mode])
  stage := StageSound.of_eq h.stage h.params fun d => by
    cases d with
    | tilt => exact SlotWithin.of_eq h.tilt
    | steer => exact SlotWithin.of_eq h.steer

theorem KeepsBlocks.slot_same {s t : State} (h : KeepsBlocks s t) (d : Drive) :
    (t.drives.get d).state = (s.drives.get d).state ∧ (t.drives.get d).misses = (s.drives.get d).misses := by
  cases d with
  | tilt => exact ⟨by rw [Drives.get, h.tilt]; rfl, by rw [Drives.get, h.tilt]; rfl⟩
  | steer => exact ⟨by rw [Drives.get, h.steer]; rfl, by rw [Drives.get, h.steer]; rfl⟩

theorem TrafficOnly.keeps {s t : State} (h : TrafficOnly s t) : Keeps s t :=
  Quiet.keeps
    { channels := by rw [h.channels], streams := by rw [h.classifier], openMode := by rw [h.classifier],
      envelope := h.envelope, row := by rw [h.lean], stage := by rw [h.agent], pendingCommit := by rw [h.agent],
      params := by rw [h.agent], pending := h.pending, now := h.now, freeIndex := h.freeIndex, resets := h.resets,
      mode := by rw [h.lean], lock := h.lock, faults := h.faults, alert := h.alert, tilt := h.slot_same .tilt,
      steer := h.slot_same .steer }

/-! ## Reports -/

theorem LockFollowsMode.qualify {s : State} (h : LockFollowsMode s) : QualifyOnlyEngaged s.lock := h.1

theorem LockSound.leavesOrStays {s t : State} (hs : LockSound s) (h : LeavesOrStays s t) : LockSound t := by
  obtain ⟨hline, hqualify, houtside, hrest⟩ := hs
  obtain ⟨hmode, hlock | hlock⟩ | ⟨-, hmode, hlock⟩ := h
  · exact LockSound.of_eq hlock hmode ⟨hline, hqualify, houtside, hrest⟩
  · cases hstate : s.lock.state with
    | engaged =>
      simp only [lockInhibited, hstate] at hlock
      simp only [LockLineRight, hstate] at hline
      refine ⟨by simp [LockLineRight, hlock, hline], ?_⟩
      simp [LockFollowsMode, hlock, hline, lockAsserted]
    | releasing | free | settling | engaging =>
      simp only [lockInhibited, hstate] at hlock
      exact LockSound.of_eq hlock hmode ⟨hline, hqualify, houtside, hrest⟩
  · cases hstate : s.lock.state with
    | engaged =>
      simp only [lockAfterLeaving, hstate] at hlock
      simp only [LockLineRight, hstate] at hline
      exact ⟨by simp [LockLineRight, hlock, hline], by simp [LockFollowsMode, hlock, hmode]⟩
    | releasing =>
      simp only [lockAfterLeaving, hstate] at hlock
      have hnone := hqualify (by simp [hstate])
      exact ⟨by simp [LockLineRight, hlock, lockAsserted], by simp [LockFollowsMode, hlock, hmode, hnone]⟩
    | free | settling | engaging =>
      simp only [lockAfterLeaving, hstate] at hlock
      have hnone := hqualify (by simp [hstate])
      exact ⟨by rw [LockLineRight, hlock]; exact hline, by simp [LockFollowsMode, hlock, hstate, hmode, hnone]⟩

theorem ReactionOnly.sameTables {s t : State} (h : ReactionOnly s t) : SameTables s t :=
  ⟨by rw [h.channels], by rw [h.classifier], by rw [h.classifier], h.envelope, by rw [h.lean], by rw [h.agent],
    by rw [h.agent], by rw [h.agent]⟩

theorem Reacts.keeps {s t : State} (h : Reacts s t) : Keeps s t where
  pending := h.reactionOnly.pending
  now := h.reactionOnly.now
  freeIndex := h.reactionOnly.freeIndex
  resets := h.reactionOnly.resets
  alert := h.alertFollows
  clean := h.activeIsClean
  latched := h.activeImpliesLatched
  lock hs := hs.leavesOrStays (h.leavesOrStays hs.mode.qualify)
  tables := TablesSound.of_same h.reactionOnly.sameTables (by
    obtain hmode | ⟨hbefore, hafter⟩ := h.mode
    · rw [hmode]
    · simp [hbefore, hafter])
  stage := StageSound.of_eq h.reactionOnly.sameTables.stage h.params fun d =>
    SlotWithin.of_eq (h.reactionOnly.slot_same d)

theorem report_keeps (k : FaultKind) (active : Bool) (s : State) : Keeps s (report k active s) :=
  (report_reacts k active s).keeps

/-! ## Drive slots -/

/-- A slot replaced by one whose misses fit where those of the old one do. -/
theorem setSlot_keeps {d : Drive} {x : DriveSlot} {s : State}
    (h : SlotWithin (missLimit s) (s.drives.get d) → SlotWithin (missLimit s) x) :
    Keeps s (setSlot d x s) where
  pending := rfl
  now := rfl
  freeIndex := rfl
  resets := rfl
  alert := id
  clean := id
  latched := id
  lock := id
  tables := id
  stage := StageSound.of_eq (s := s) rfl rfl fun e he => by
    rw [setSlot_drives, drives_get_set]
    split
    next hd => exact h (hd ▸ he)
    next => exact he

/-- A slot replaced by one with the same state and the same misses. -/
theorem setSlot_keeps_of_same {d : Drive} {x : DriveSlot} {s : State}
    (h : x.state = (s.drives.get d).state ∧ x.misses = (s.drives.get d).misses) : Keeps s (setSlot d x s) :=
  setSlot_keeps (SlotWithin.of_eq h)

/-- A slot replaced after traffic: its old value is told of before the traffic. -/
theorem setSlot_traffic_keeps {d : Drive} {x : DriveSlot} {s u : State} (hu : TrafficOnly s u)
    (h : SlotWithin (missLimit s) (s.drives.get d) → SlotWithin (missLimit s) x) : Keeps s (setSlot d x u) := by
  have hlimit : missLimit u = missLimit s := missLimit_of_params (by rw [hu.agent])
  refine hu.keeps.trans (setSlot_keeps fun hx => ?_)
  rw [hlimit] at hx ⊢
  exact h (SlotWithin.of_eq ⟨(hu.slot_same d).1.symm, (hu.slot_same d).2.symm⟩ hx)

/-- A miss is counted below MISS_LIMIT, or loses the drive at it (R135). -/
theorem countMiss_keeps {d : Drive} {s : State} (hstate : (s.drives.get d).state ≠ .failed) :
    Keeps s (countMiss d s) := by
  unfold countMiss
  dsimp only
  split
  next hlimit =>
    refine Keeps.trans (setSlot_traffic_keeps (onBuffer_traffic letGo_traffic _ s) fun _ => ?_) (report_keeps ..)
    exact ⟨Nat.le_of_eq hlimit, fun hfailed => absurd rfl hfailed⟩
  next hlimit =>
    refine setSlot_keeps fun ⟨_, hbelow⟩ => ?_
    have := hbelow hstate
    exact ⟨this, fun _ => Nat.lt_of_le_of_ne this hlimit⟩

theorem takeCommand_keeps {d : Drive} {t : Token} {q : Byte} {s : State} (hstate : (s.drives.get d).state ≠ .failed) :
    Keeps s (takeCommand d t q s) :=
  setSlot_traffic_keeps (setRetainer_traffic ..) fun ⟨hle, hbelow⟩ => ⟨hle, fun _ => hbelow hstate⟩

theorem supersede_keeps {d : Drive} {s : State} (hstate : (s.drives.get d).state ≠ .failed) :
    Keeps s (supersede d s) := by
  unfold supersede
  dsimp only
  refine Keeps.trans (setSlot_traffic_keeps (onBuffer_traffic withdraw_traffic _ s) ?_) (countMiss_keeps ?_)
  · exact SlotWithin.of_eq ⟨rfl, rfl⟩
  · simpa using hstate

theorem handOver_keeps (d : Drive) (t : Token) (q : Byte) (s : State) : Keeps s (handOver d t q s) := by
  have hcounted : Keeps s (setSlot d { s.drives.get d with sentCount := bump (s.drives.get d).sentCount } s) :=
    setSlot_keeps_of_same ⟨rfl, rfl⟩
  unfold handOver
  dsimp only
  split
  next hidle => exact hcounted.trans (takeCommand_keeps (by simp [hidle]))
  next hawaiting =>
    have hsuperseded := hcounted.trans (supersede_keeps (d := d) (by simp [hawaiting]))
    split
    next => exact hsuperseded
    next hstate => exact hsuperseded.trans (takeCommand_keeps hstate)
  next => exact hcounted

theorem deliverAck_keeps (d : Drive) (payload : List Byte) (s : State) : Keeps s (deliverAck d payload s) := by
  have hlate : Keeps s (lateAck d s) := setSlot_keeps_of_same ⟨rfl, rfl⟩
  have hgone := onBuffer_traffic letGo_traffic (s.drives.get d).retained s
  unfold deliverAck
  dsimp only
  split
  next => exact hlate
  next =>
    split
    next hmatch =>
      have hbelow (h : SlotWithin (missLimit s) (s.drives.get d)) : (s.drives.get d).misses < missLimit s :=
        h.2 (by simp [hmatch.1])
      split
      next =>
        exact setSlot_traffic_keeps hgone fun h => ⟨Nat.zero_le _, fun _ => Nat.zero_lt_of_lt (hbelow h)⟩
      next =>
        unfold ackReject
        refine Keeps.trans ?_ (countMiss_keeps (by simp [emptied]))
        exact setSlot_traffic_keeps hgone fun h => ⟨h.1, fun _ => hbelow h⟩
    next => exact hlate

theorem retryOrEnd_keeps {d : Drive} {s : State} (hstate : (s.drives.get d).state ≠ .failed) :
    Keeps s (retryOrEnd d s) := by
  unfold retryOrEnd
  dsimp only
  have hidle (h : SlotWithin (missLimit s) (s.drives.get d)) :
      SlotWithin (missLimit s) (emptied (s.drives.get d) .idle) := ⟨h.1, fun _ => h.2 hstate⟩
  split
  next t _ =>
    split
    next =>
      unfold retry
      refine Keeps.trans ?_ (enqueue_traffic ..).keeps
      exact setSlot_keeps_of_same ⟨rfl, rfl⟩
    next => exact setSlot_traffic_keeps (letGo_traffic t s) hidle
  next => exact setSlot_keeps hidle

theorem ackTimerExpiry_keeps (d : Drive) (s : State) : Keeps s (ackTimerExpiry d s) := by
  unfold ackTimerExpiry
  dsimp only
  split
  next h =>
    have hmissed := (setSlot_keeps_of_same (s := s) (d := d)
      (x := { s.drives.get d with timer := none }) ⟨rfl, rfl⟩).trans (countMiss_keeps (d := d) (by simp [h.2]))
    split
    next => exact hmissed
    next hstate => exact hmissed.trans (retryOrEnd_keeps hstate)
  next => exact .refl s

/-- MISS_LIMIT is at least 1 where the parameters are in range (R198). -/
theorem missLimit_pos {s : State} (h : ParametersLegal s) : 0 < missLimit s := by
  have h6 := h.1 6
  rw [paramInRange, Bool.and_eq_true, Bool.and_eq_true, decide_eq_true_iff] at h6
  obtain ⟨⟨hmin, -⟩, -⟩ := h6
  exact hmin

/-- A slot that loses its misses fits, MISS_LIMIT being at least 1 (R136). -/
theorem setSlot_forgiven_keeps (d : Drive) (s : State) :
    Keeps s (setSlot d { s.drives.get d with state := .idle, misses := 0 } s) := by
  refine ⟨rfl, rfl, rfl, rfl, id, id, id, id, id, fun hs => ?_⟩
  have hpos := missLimit_pos hs.params
  exact (setSlot_keeps (x := { s.drives.get d with state := .idle, misses := 0 })
    fun _ => ⟨Nat.zero_le _, fun _ => hpos⟩).stage hs

theorem clearSlot_keeps (d : Drive) (s : State) : Keeps s (clearSlot d s) := by
  unfold clearSlot
  dsimp only
  split
  · exact (setSlot_forgiven_keeps d s).trans (report_keeps ..)
  all_goals exact .refl s

/-! ## The lock supervisor -/

/-- The lock replaced by one that agrees with its line and with the mode where the old one does. -/
theorem setLock_keeps {x : Lock} {s : State} (h : LockSound s → LockSound { s with lock := x }) :
    Keeps s { s with lock := x } :=
  ⟨rfl, rfl, rfl, rfl, id, id, id, h, id, id⟩

/-- A lock supervisor's move to ENGAGED is sound in every mode. -/
theorem LockSound.of_engaged {s : State} (hstate : s.lock.state = .engaged) (hout : s.lock.output = true)
    (hqualify : s.lock.releaseQualify = none) : LockSound s :=
  ⟨by rw [LockLineRight, hstate, hout]; rfl, by simp [LockFollowsMode, hstate, hout, hqualify]⟩

/-- Outside ENGAGED the mode is ACTIVE or RECOVER (R156). -/
theorem LockSound.mode_of_not_engaged {s : State} (h : LockSound s) (hstate : s.lock.state ≠ .engaged) :
    ¬(s.lean.mode = .bridge ∨ s.lean.mode = .standby) :=
  fun hm => hstate (h.mode.2.2 hm).1

/-- A move from outside ENGAGED to another state than ENGAGED and RELEASING is sound with the line that goes with
it. -/
theorem LockSound.of_moved {s t : State} (h : LockSound s) (hs : s.lock.state ≠ .engaged)
    (hmode : t.lean.mode = s.lean.mode) (hqualify : t.lock.releaseQualify = s.lock.releaseQualify)
    (hline : t.lock.output = lockAsserted t.lock.state) (ht : t.lock.state ≠ .releasing) : LockSound t := by
  have hnone : t.lock.releaseQualify = none := hqualify.trans (h.mode.1 hs)
  refine ⟨hline, fun _ => hnone, fun _ => ⟨hnone, ht⟩, fun hm => ?_⟩
  rw [hmode] at hm
  exact absurd hm (h.mode_of_not_engaged hs)

theorem enterReleasing_keeps {s : State} (hmode : s.lean.mode = .active) : Keeps s (enterReleasing s) :=
  setLock_keeps fun _ => ⟨rfl, fun _ => rfl, fun h => absurd hmode h, fun h => by simp [hmode] at h⟩

theorem enterFree_keeps {s : State} (h : s.lock.state ≠ .engaged) : Keeps s (enterFree s) :=
  setLock_keeps fun hs => hs.of_moved h rfl rfl rfl (by simp)

theorem enterSettling_keeps {s : State} (h : s.lock.state ≠ .engaged) : Keeps s (enterSettling s) :=
  setLock_keeps fun hs => hs.of_moved h rfl rfl rfl (by simp)

theorem enterEngaging_keeps {s : State} (h : s.lock.state ≠ .engaged) : Keeps s (enterEngaging s) :=
  setLock_keeps fun hs => hs.of_moved h rfl rfl rfl (by simp)

theorem enterEngaged_keeps (s : State) : Keeps s (enterEngaged s) :=
  setLock_keeps fun _ => .of_engaged rfl rfl rfl

/-- A release-qualify timer stopped, or kept, with other timers changed. -/
theorem setTimers_keeps {x : Lock} {s : State} (hstate : x.state = s.lock.state) (hout : x.output = s.lock.output)
    (hqualify : x.releaseQualify = none ∨ x.releaseQualify = s.lock.releaseQualify) : Keeps s { s with lock := x } := by
  refine setLock_keeps fun ⟨hline, honly, houtside, hrest⟩ => ?_
  have hnone (h : s.lock.releaseQualify = none) : x.releaseQualify = none := hqualify.elim id fun e => e.trans h
  refine ⟨by rwa [LockLineRight, hstate, hout], ?_, ?_, ?_⟩
  · exact fun h => hnone (honly (hstate ▸ h))
  · exact fun h => ⟨hnone (houtside h).1, hstate ▸ (houtside h).2⟩
  · exact fun h => ⟨hstate.trans (hrest h).1, hout.trans (hrest h).2⟩

theorem reportEngaged_keeps {speed lean : Int} {s : State} (hstate : s.lock.state = .engaged) :
    Keeps s (reportEngaged speed lean s) := by
  by_cases hconditions : releaseConditions speed lean s = true
  · have hmode := ((releaseConditions_eq_true_iff speed lean s).1 hconditions).1
    by_cases hdelay : releaseDelay s = 0
    · rw [reportEngaged_of_no_delay hconditions hdelay]
      exact enterReleasing_keeps hmode
    · by_cases htimer : s.lock.releaseQualify = none
      · rw [reportEngaged_of_stopped hconditions hdelay htimer]
        refine setLock_keeps fun ⟨hline, _⟩ => ⟨hline, fun h => absurd hstate h, fun h => absurd hmode h, fun h => ?_⟩
        simp [hmode] at h
      · rw [reportEngaged_of_running hconditions hdelay htimer]
        exact .refl s
  · rw [reportEngaged_of_not_releaseConditions hconditions]
    exact setTimers_keeps rfl rfl (.inl rfl)

theorem reportFree_keeps {speed : Int} {s : State} (hstate : s.lock.state = .free) : Keeps s (reportFree speed s) := by
  unfold reportFree
  split
  · split
    · exact enterSettling_keeps (by simp [hstate])
    · split
      · exact setTimers_keeps rfl rfl (.inr rfl)
      · exact .refl s
  · exact setTimers_keeps rfl rfl (.inr rfl)

theorem reportSettling_keeps {speed lean : Int} {s : State} (hstate : s.lock.state = .settling) :
    Keeps s (reportSettling speed lean s) := by
  unfold reportSettling
  split
  · exact enterFree_keeps (by simp [hstate])
  · split
    · exact enterEngaging_keeps (by simp [hstate])
    · exact .refl s

theorem reportFresh_keeps (speed lean : Int) (s : State) : Keeps s (reportFresh speed lean s) := by
  unfold reportFresh
  split
  next h => exact reportEngaged_keeps h
  next h => exact reportFree_keeps h
  next h => exact reportSettling_keeps h
  all_goals exact .refl s

/-- The hand-back finds the lock ENGAGED where the mode is RECOVER (R155). -/
theorem handBack_keeps {s : State} (h : s.lean.mode = .recover → s.lock.state = .engaged) : Keeps s (handBack s) := by
  cases hmode : s.lean.mode with
  | recover =>
    simp only [handBack, hmode]
    have hstate := h hmode
    refine ⟨rfl, rfl, rfl, rfl, id, fun _ hm => absurd hm (by simp), id, fun ⟨hline, honly, houtside, _⟩ => ?_,
      fun ⟨hchecks, henvelope, hbridge⟩ => ⟨hchecks, henvelope, ?_⟩, id⟩
    · rw [LockLineRight, hstate] at hline
      exact .of_engaged hstate hline (houtside (by simp [hmode])).1
    · simpa [BridgeIsOpenMode, hmode] using hbridge
  | bridge | standby | active =>
    simp only [handBack, hmode]
    exact .refl s

theorem completionReport_keeps (speed lean : Int) (stale : Bool) (s : State) :
    Keeps s (completionReport speed lean stale s) := by
  have hjudged : Keeps s (if stale then reportStale s else reportFresh speed lean s) := by
    split
    · exact setTimers_keeps rfl rfl (.inl rfl)
    · exact reportFresh_keeps speed lean s
  unfold completionReport
  dsimp only
  split
  next hengaged =>
    refine hjudged.trans (handBack_keeps ?_)
    split
    · exact fun _ => hengaged
    · rw [reportFresh, hengaged]
      dsimp only
      intro hmode
      rw [reportEngaged_lean] at hmode
      have hnot : ¬releaseConditions speed lean s = true := by
        rw [releaseConditions_eq_true_iff]
        simp [hmode]
      rw [reportEngaged_of_not_releaseConditions hnot]
      exact hengaged
  all_goals exact hjudged

theorem lockAfterLeaving_engaged {x : Lock} (h : x.state = .engaged) : (lockAfterLeaving x).state = .engaged := by
  simp [lockAfterLeaving, h]

/-- An ENGAGED lock stays ENGAGED over reports (R150, R157). -/
theorem Reacts.lock_engaged {s t : State} (h : Reacts s t) (hs : s.lock.state = .engaged) :
    t.lock.state = .engaged := by
  obtain ⟨-, hlock | hlock⟩ | ⟨-, -, hlock⟩ := h.leavesOrStays fun hne => absurd hs hne <;> rw [hlock]
  · exact hs
  · simp [lockInhibited, hs]
  · exact lockAfterLeaving_engaged hs

theorem lockSignal_keeps (v : Word) (s : State) : Keeps s (lockSignal v s) := by
  unfold lockSignal
  dsimp only
  split
  next => exact report_keeps ..
  next => exact report_keeps ..
  next h =>
    split
    · exact .refl s
    · refine Keeps.trans (Keeps.trans ?_ (report_keeps ..)) (report_keeps ..)
      exact setLock_keeps fun hs => hs.of_moved (by simp [h]) rfl rfl rfl (by simp [enterFree])
  next =>
    split
    · have hreports : Reacts (enterEngaged s)
          (report .lockSlip false (report .lockNoConfirm false (enterEngaged s))) :=
        (report_reacts ..).trans (report_reacts ..)
      exact ((enterEngaged_keeps s).trans hreports.keeps).trans (handBack_keeps fun _ => hreports.lock_engaged rfl)
    · exact .refl s
  next => exact .refl s

/-! ## Cycles -/

/-- Plain selection takes an enabled row (R79). -/
theorem plainRow_enabled {rows : Vector EnvelopeRow 12} {speed : Int} {r : Fin 12}
    (h : plainRow rows speed = some r) : (look rows r).enabled = true := by
  have := List.find?_some h
  simp only [Bool.and_eq_true] at this
  exact this.1

theorem passUp_enabled (rows : Vector EnvelopeRow 12) (speed hyst : Int) (n : Nat) (r : Fin 12)
    (h : (look rows r).enabled = true) : (look rows (passUp rows speed hyst n r)).enabled = true := by
  induction n generalizing r with
  | zero => exact h
  | succ n ih =>
    unfold passUp
    split
    next =>
      dsimp only
      split
      next hmove => exact ih _ hmove.1
      next => exact h
    next => exact h

/-- In a valid envelope the row below an enabled row is enabled, with a lower edge (R72). -/
theorem envelopeValid_below {rows : Vector EnvelopeRow 12} (h : envelopeValid rows = true) {q r : Fin 12}
    (hqr : q.val + 1 = r.val) (hr : (look rows r).enabled = true) :
    (look rows q).enabled = true ∧ (look rows q).lowEdge.toNat < (look rows r).lowEdge.toNat := by
  simp only [envelopeValid, Bool.and_eq_true, List.all_eq_true, List.mem_finRange, true_implies] at h
  obtain ⟨⟨-, hchain⟩, -⟩ := h
  have hi := hchain ⟨q.val, by omega⟩
  have hsucc : Fin.succ (⟨q.val, by omega⟩ : Fin 11) = r := Fin.ext hqr
  have hcast : Fin.castSucc (⟨q.val, by omega⟩ : Fin 11) = q := rfl
  rw [hsucc, hcast] at hi
  simpa [hr] using hi

theorem passDown_enabled {rows : Vector EnvelopeRow 12} (hvalid : envelopeValid rows = true) (speed hyst : Int)
    (n : Nat) (r : Fin 12) (h : (look rows r).enabled = true) :
    (look rows (passDown rows speed hyst n r)).enabled = true := by
  induction n generalizing r with
  | zero => exact h
  | succ n ih =>
    unfold passDown
    split
    next hmove => exact ih _ (envelopeValid_below hvalid (Nat.sub_add_cancel hmove.1) h).1
    next => exact h

/-- Band selection takes an enabled row of a valid envelope (R78 to R80). -/
theorem selectRow_enabled {env : Envelope} {selected : Option (Fin 12)} {speed hyst : Int} {r : Fin 12}
    (hvalid : env.valid = true → envelopeValid env.rows = true)
    (hselected : ∀ q, selected = some q → (look env.rows q).enabled = true)
    (h : selectRow env selected speed hyst = some r) : env.valid = true ∧ (look env.rows r).enabled = true := by
  unfold selectRow at h
  split at h
  next hv =>
    refine ⟨hv, ?_⟩
    split at h
    next => exact plainRow_enabled h
    next q =>
      obtain rfl := Option.some.inj h
      exact passDown_enabled (hvalid hv) _ _ _ _ (passUp_enabled _ _ _ _ _ (hselected q rfl))
  next => cases h

theorem startCycle_keeps (c : Cause) (s : State) : Keeps s (startCycle c s) := by
  unfold startCycle
  split
  · exact .refl s
  all_goals
    refine ⟨rfl, rfl, rfl, rfl, id, id, id, id, fun ⟨hchecks, ⟨hvalid, hrow, hcommit⟩, hbridge⟩ => ?_, id⟩
    exact ⟨hchecks, ⟨hvalid, fun r hr => selectRow_enabled hvalid (fun q hq => (hrow q hq).2) hr, hcommit⟩, hbridge⟩

/-- The lean law with another record but the same mode and row. -/
theorem setLean_keeps {x : LeanLaw} {s : State} (hmode : x.mode = s.lean.mode) (hrow : x.row = s.lean.row) :
    Keeps s { s with lean := x } :=
  Quiet.keeps ⟨⟨rfl, rfl, rfl, rfl, hrow, rfl, rfl, rfl⟩, rfl, rfl, rfl, rfl, hmode, rfl, rfl, rfl, ⟨rfl, rfl⟩,
    ⟨rfl, rfl⟩⟩

theorem setLeanCounters_keeps (f : LeanCounters → LeanCounters) (s : State) : Keeps s (setLeanCounters f s) :=
  setLean_keeps rfl rfl

theorem anchorSignal_keeps (s : State) : Keeps s (anchorSignal s) := by
  unfold anchorSignal
  split
  · exact .refl s
  all_goals
    split
    · exact startCycle_keeps .anchor s
    · split
      · exact setLean_keeps rfl rfl
      · exact (setLeanCounters_keeps _ s).trans (report_keeps ..)

/-- A claim takes a buffer or none, and reports (R33). -/
theorem claimOrigin_keeps (s : State) : Keeps s (claimOrigin s).2 := by
  cases hlow : lowestFree s with
  | some b =>
    simp only [claimOrigin, hlow]
    exact (holdForOrigin_traffic b s).keeps.trans (report_keeps ..)
  | none =>
    simp only [claimOrigin, hlow]
    exact report_keeps ..

theorem launchTilt_keeps (c : Cycle) (t : Token) (s : State) : Keeps s (launchTilt c t s) := by
  unfold launchTilt
  dsimp only
  refine Keeps.trans ?_ (setLeanCounters_keeps _ _)
  refine Keeps.trans ?_ (enqueue_traffic ..).keeps
  refine Keeps.trans ?_ (handOver_keeps ..)
  exact (setBytes_traffic t _ s).keeps.trans (setLean_keeps rfl rfl)

theorem originateTilt_keeps (c : Cycle) (s : State) : Keeps s (originateTilt c s) := by
  have hclaim := claimOrigin_keeps s
  unfold originateTilt
  split
  · split
    next heq =>
      rw [heq] at hclaim
      exact hclaim.trans (launchTilt_keeps ..)
    next heq =>
      rw [heq] at hclaim
      exact hclaim.trans (setLeanCounters_keeps ..)
  · exact .refl s

theorem judgeExcursion_keeps (c : Cycle) (s : State) : Keeps s (judgeExcursion c s) := by
  unfold judgeExcursion
  dsimp only
  split
  · split
    · have hcounted (x : Byte) (f : LeanCounters → LeanCounters) :
          Keeps s (setLeanCounters f { s with lean := { s.lean with excursionRun := x } }) := setLean_keeps rfl rfl
      split
      · exact (hcounted ..).trans (report_keeps ..)
      · exact hcounted ..
    · refine Keeps.trans ?_ (report_keeps ..)
      exact setLean_keeps rfl rfl
  · exact .refl s

end Sys2Proof.Machine
end

section
/-! PROOF. The walk of `Keeps` along frames, requests and commits. -/

namespace Sys2Proof.Machine

/-! ## Replaced records that no invariant reads -/

/-- The agent with another list, request in hand or counters. -/
theorem setAgent_keeps {x : Agent} {s : State} (hstage : x.stage = s.agent.stage)
    (hcommit : x.pendingCommit = s.agent.pendingCommit) (hparams : x.params = s.agent.params) :
    Keeps s { s with agent := x } := by
  cases x
  cases hstage
  cases hcommit
  cases hparams
  exact Quiet.keeps ⟨⟨rfl, rfl, rfl, rfl, rfl, rfl, rfl, rfl⟩, rfl, rfl, rfl, rfl, rfl, rfl, rfl, rfl, ⟨rfl, rfl⟩,
    ⟨rfl, rfl⟩⟩

theorem setRx_keeps (p : Port) (r : Receiver) (s : State) : Keeps s (setRx p r s) :=
  Quiet.keeps ⟨⟨rfl, rfl, rfl, rfl, rfl, rfl, rfl, rfl⟩, rfl, rfl, rfl, rfl, rfl, rfl, rfl, rfl, ⟨rfl, rfl⟩,
    ⟨rfl, rfl⟩⟩

theorem putRecord_keeps (c : Channel) (r : ChannelRecord) (s : State) : Keeps s (putRecord c r s) :=
  Quiet.keeps ⟨⟨rfl, rfl, rfl, rfl, rfl, rfl, rfl, rfl⟩, rfl, rfl, rfl, rfl, rfl, rfl, rfl, rfl, ⟨rfl, rfl⟩,
    ⟨rfl, rfl⟩⟩

theorem setRecords_keeps (v : Vector ChannelRecord 16) (s : State) :
    Keeps s { s with channels := { s.channels with records := v } } :=
  Quiet.keeps ⟨⟨rfl, rfl, rfl, rfl, rfl, rfl, rfl, rfl⟩, rfl, rfl, rfl, rfl, rfl, rfl, rfl, rfl, ⟨rfl, rfl⟩,
    ⟨rfl, rfl⟩⟩

theorem setShaper_keeps (x : Shaper) (s : State) : Keeps s { s with shaper := x } :=
  Quiet.keeps ⟨⟨rfl, rfl, rfl, rfl, rfl, rfl, rfl, rfl⟩, rfl, rfl, rfl, rfl, rfl, rfl, rfl, rfl, ⟨rfl, rfl⟩,
    ⟨rfl, rfl⟩⟩

/-- The stream counters replaced. -/
theorem setStreamCounters_keeps (m : Vector Counter 24) (d i : Counter) (s : State) :
    Keeps s { s with classifier := { s.classifier with matched := m, defaulted := d, tapIdle := i } } :=
  Quiet.keeps ⟨⟨rfl, rfl, rfl, rfl, rfl, rfl, rfl, rfl⟩, rfl, rfl, rfl, rfl, rfl, rfl, rfl, rfl, ⟨rfl, rfl⟩,
    ⟨rfl, rfl⟩⟩

/-- The monitor with fault table and ALERT as before. -/
theorem setMonitor_keeps {x : Monitor} {s : State} (hfaults : x.faults = s.monitor.faults)
    (halert : x.alert = s.monitor.alert) : Keeps s { s with monitor := x } :=
  Quiet.keeps ⟨⟨rfl, rfl, rfl, rfl, rfl, rfl, rfl, rfl⟩, rfl, rfl, rfl, rfl, rfl, rfl, hfaults, halert, ⟨rfl, rfl⟩,
    ⟨rfl, rfl⟩⟩

/-! ## Requests -/

theorem setAgentCounters_keeps (f : AgentCounters → AgentCounters) (s : State) : Keeps s (setAgentCounters f s) :=
  setAgent_keeps rfl rfl rfl

theorem dropRequest_keeps (t : Token) (s : State) : Keeps s (dropRequest t s) :=
  (releaseBuffer_traffic t s).keeps.trans (setAgentCounters_keeps ..)

theorem beginFrom_keeps (rs : List Request) (s : State) : Keeps s (beginFrom rs s) := by
  induction rs generalizing s with
  | nil => exact setAgent_keeps rfl rfl rfl
  | cons r rest ih =>
    have hclaim : Keeps s (claimOrigin { s with agent := { s.agent with requests := rest } }).2 :=
      (claimOrigin_keeps _).after (setAgent_keeps rfl rfl rfl)
    unfold beginFrom
    split
    next heq =>
      rw [heq] at hclaim
      exact hclaim.trans (setAgent_keeps rfl rfl rfl)
    next heq =>
      rw [heq] at hclaim
      exact (hclaim.trans (dropRequest_keeps ..)).trans (ih _)

theorem beginRequests_keeps (s : State) : Keeps s (beginRequests s) := by
  unfold beginRequests
  split
  · exact beginFrom_keeps ..
  · exact .refl s

theorem nextRequest_keeps (s : State) : Keeps s (nextRequest s) :=
  (beginRequests_keeps _).after (setAgent_keeps rfl rfl rfl)

theorem takeRequest_keeps (t : Token) (p : Port) (s : State) : Keeps s (takeRequest t p s) :=
  ((beginRequests_keeps _).after (setAgentCounters_keeps ..)).after (setAgent_keeps rfl rfl rfl)

theorem countReply_keeps (r : Result) (s : State) : Keeps s (countReply r s) := setAgentCounters_keeps ..

theorem queueReply_keeps (rq : RequestInHand) (r : Result) (data : List Byte) (s : State) :
    Keeps s (queueReply rq r data s) := by
  unfold queueReply
  dsimp only
  refine Keeps.trans ?_ (countReply_keeps ..)
  exact ((releaseBuffer_traffic ..).trans ((setBytes_traffic ..).trans (enqueue_traffic ..))).keeps

theorem answer_keeps (r : Result) (data : List Byte) (s : State) : Keeps s (answer r data s) := by
  unfold answer
  split
  · exact .refl s
  · exact (queueReply_keeps ..).trans (nextRequest_keeps _)

/-- A request completes by a malformed answer or by what its execution keeps. -/
theorem completeRequest_keeps {code : RequestCode} {execute : List Byte → State → State} {s : State}
    (h : ∀ payload, Keeps s (execute payload s)) : Keeps s (completeRequest code execute s) := by
  unfold completeRequest
  split
  · exact .refl s
  · split
    · exact answer_keeps ..
    · exact h _

/-! ## The completion of a cycle -/

/-- A pending commit is applied to the rows it was held for, which make a valid envelope (R107, R191). -/
theorem applyEnvelope_keeps {es : List (Fin 12 × EnvelopeRow)} {f : LeanCounters} {s : State}
    (h : EnvelopeSound s → envelopeValid (overlay s.envelope.rows es) = true) :
    Keeps s
      { applyEnvelope es s with
        lean := { (applyEnvelope es s).lean with counters := f }
        agent := { (applyEnvelope es s).agent with pendingCommit := none } } := by
  refine ⟨rfl, rfl, rfl, rfl, id, id, id, id, fun ⟨hchecks, henvelope, hbridge⟩ => ?_, fun ⟨_, hparams, hmisses⟩ => ?_⟩
  · exact ⟨hchecks, ⟨fun _ => h henvelope, fun r hr => absurd hr (by simp [applyEnvelope]), fun hc => by simp at hc⟩,
      hbridge⟩
  · exact ⟨⟨Nat.zero_le _, List.Pairwise.nil⟩, ⟨hparams.1, fun _ hes => by cases hes⟩, hmisses⟩

theorem applyPendingCommit_keeps (s : State) : Keeps s (applyPendingCommit s) := by
  unfold applyPendingCommit
  dsimp only
  split
  next => exact .refl s
  next pc hpc =>
    refine Keeps.trans ?_ (countReply_keeps ..)
    refine Keeps.trans ?_ (enqueue_traffic ..).keeps
    refine Keeps.trans ?_ (setBytes_traffic ..).keeps
    refine applyEnvelope_keeps fun ⟨_, _, hcommit⟩ => ?_
    obtain ⟨es, hes, hvalid⟩ := hcommit (by simp [hpc])
    simpa only [hes] using hvalid

theorem pendingAnchorStart_keeps (s : State) : Keeps s (pendingAnchorStart s) := by
  unfold pendingAnchorStart
  split
  · exact (startCycle_keeps ..).after (setLean_keeps rfl rfl)
  · exact report_keeps ..

theorem cycleCompletion_keeps (s : State) : Keeps s (cycleCompletion s) := by
  unfold cycleCompletion
  split
  · exact .refl s
  · refine Keeps.trans ?_ (pendingAnchorStart_keeps _)
    refine Keeps.trans ?_ (applyPendingCommit_keeps _)
    refine Keeps.trans ?_ (completionReport_keeps ..)
    refine Keeps.trans ?_ (judgeExcursion_keeps ..)
    refine Keeps.trans ?_ (originateTilt_keeps ..)
    exact setLean_keeps rfl rfl

theorem cycleTimerExpiry_keeps (s : State) : Keeps s (cycleTimerExpiry s) := by
  have hstopped : Keeps s { s with lean := { s.lean with timer := none } } := setLean_keeps rfl rfl
  unfold cycleTimerExpiry
  dsimp only
  split
  · split
    · exact hstopped.trans (startCycle_keeps ..)
    · exact hstopped
  · exact .refl s

/-! ## Frames -/

theorem reportStaleOf_keeps (r : Role) (active : Bool) (s : State) : Keeps s (reportStaleOf r active s) := by
  unfold reportStaleOf
  split
  · exact .refl s
  · exact report_keeps ..

theorem tap_keeps (frame : List Byte) (c : Channel) (g : Signals) (s : State) : Keeps s (tap frame c g s).2 := by
  unfold tap
  dsimp only
  split
  · exact setStreamCounters_keeps ..
  · split
    · exact putRecord_keeps ..
    · split
      · exact putRecord_keeps ..
      · exact (putRecord_keeps ..).trans (reportStaleOf_keeps ..)

theorem tapAll_keeps (frame : List Byte) (cs : List Channel) (g : Signals) (s : State) :
    Keeps s (tapAll frame cs g s).2 := by
  induction cs generalizing g s with
  | nil => exact .refl s
  | cons c rest ih => exact (tap_keeps frame c g s).trans (ih ..)

theorem giveSignals_keeps (g : Signals) (s : State) : Keeps s (giveSignals g s) := by
  have hanchored : Keeps s (if g.anchor then anchorSignal s else s) := by
    split
    · exact anchorSignal_keeps s
    · exact .refl s
  unfold giveSignals
  dsimp only
  split
  · exact hanchored
  · exact hanchored.trans (lockSignal_keeps ..)

theorem tapFrame_keeps (frame : List Byte) (cs : List Channel) (s : State) : Keeps s (tapFrame frame cs s) :=
  (tapAll_keeps frame cs noSignals s).trans (giveSignals_keeps ..)

theorem freshnessTimerExpiry_keeps (c : Channel) (s : State) : Keeps s (freshnessTimerExpiry c s) := by
  unfold freshnessTimerExpiry
  dsimp only
  split
  · exact (putRecord_keeps ..).trans (reportStaleOf_keeps ..)
  · exact .refl s

theorem shapeFrame_keeps (t : Token) (frame : List Byte) (o : Fin 16) (s : State) :
    Keeps s (shapeFrame t frame o s) := by
  unfold shapeFrame trackSteerFrame
  dsimp only
  have hwritten (x : Shaper) (b : Bool) (bs : List Byte) :
      Keeps s (setBytes t bs (report .demandClamped b { s with shaper := x })) :=
    ((setShaper_keeps x s).trans (report_keeps ..)).trans (setBytes_traffic ..).keeps
  split
  · exact (hwritten ..).trans (handOver_keeps ..)
  · exact hwritten ..

theorem shape_keeps (p : Port) (t : Token) (cs : List Channel) (u : Bool) (s : State) : Keeps s (shape p t cs u s) := by
  unfold shape
  dsimp only
  have htapped := tapFrame_keeps (buffer t s).bytes cs s
  refine (forward_traffic ..).keeps.after (htapped.trans ?_)
  split
  · exact (setShaper_keeps ..).trans (report_keeps ..)
  · exact shapeFrame_keeps ..

theorem perform_keeps (e : StreamEntry) (p : Port) (t : Token) (s : State) : Keeps s (perform e p t s) := by
  unfold perform
  dsimp only
  split
  · exact (forward_traffic ..).keeps
  · exact (tapFrame_keeps ..).trans (forward_traffic ..).keeps
  · exact (tapFrame_keeps ..).trans (releaseBuffer_traffic ..).keeps
  · exact shape_keeps ..
  · exact (deliverAck_keeps ..).trans (releaseBuffer_traffic ..).keeps
  · exact (releaseBuffer_traffic ..).keeps

theorem classify_keeps (p : Port) (t : Token) (s : State) : Keeps s (classify p t s) := by
  unfold classify
  dsimp only
  split
  · exact takeRequest_keeps ..
  · split
    · exact (forward_traffic ..).keeps
    · split
      · exact (setStreamCounters_keeps ..).trans (perform_keeps ..)
      · unfold defaultDisposition
        dsimp only
        split
        · exact (setStreamCounters_keeps ..).trans (releaseBuffer_traffic ..).keeps
        · exact (setStreamCounters_keeps ..).trans (forward_traffic ..).keeps

/-! ## Receivers and transmitters -/

theorem cutFrame_keeps (p : Port) (s : State) : Keeps s (cutFrame p s) := by
  unfold cutFrame
  split
  · exact .refl s
  · exact (setRx_keeps ..).trans (setRx_keeps ..)
  · exact ((releaseBuffer_traffic ..).keeps.trans (setRx_keeps ..)).trans (setRx_keeps ..)
  · exact setRx_keeps ..

theorem headerComplete_keeps (p : Port) (b0 b1 b2 b3 : Byte) (s : State) :
    Keeps s (headerComplete p b0 b1 b2 b3 s) := by
  unfold headerComplete
  split
  · split
    · exact setRx_keeps ..
    · split
      · exact (receiveInto_traffic ..).keeps.trans (setRx_keeps ..)
      · exact setRx_keeps ..
  all_goals exact .refl s

theorem discardEnd_keeps (p : Port) (s : State) : Keeps s (discardEnd p s) := by
  unfold discardEnd
  split
  · exact setRx_keeps ..
  all_goals exact .refl s

theorem reportPortQuiet_keeps (p : Port) (s : State) : Keeps s (reportPortQuiet p s) := by
  have hadded : Keeps s { s with monitor := { s.monitor with quietPorts := s.monitor.quietPorts.set p true } } :=
    setMonitor_keeps rfl rfl
  unfold reportPortQuiet
  dsimp only
  split
  · exact .refl s
  · split
    · exact hadded
    · exact hadded.trans (report_keeps ..)

theorem reportPortHeard_keeps (p : Port) (s : State) : Keeps s (reportPortHeard p s) := by
  have hremoved : Keeps s { s with monitor := { s.monitor with quietPorts := s.monitor.quietPorts.set p false } } :=
    setMonitor_keeps rfl rfl
  unfold reportPortHeard
  dsimp only
  split
  · exact .refl s
  · split
    · exact hremoved
    · exact hremoved.trans (report_keeps ..)

theorem frameEnd_keeps (p : Port) (body : List Byte) (s : State) : Keeps s (frameEnd p body s) := by
  unfold frameEnd
  split
  next t remaining _ =>
    dsimp only
    have hstored := (setBytes_traffic t ((buffer t s).bytes ++ body.take remaining) s).keeps
    split
    · exact hstored.trans (setRx_keeps ..)
    · refine hstored.trans ?_
      split
      · refine (classify_keeps ..).after ((reportPortHeard_keeps ..).after ?_)
        exact (setRx_keeps ..).trans (setBufferState_traffic ..).keeps
      · refine (setRx_keeps ..).after ((setRx_keeps ..).after ?_)
        exact (releaseBuffer_traffic ..).keeps
  all_goals exact .refl s

theorem quietTimerExpiry_keeps (p : Port) (s : State) : Keeps s (quietTimerExpiry p s) := by
  unfold quietTimerExpiry
  split
  · exact (setRx_keeps ..).trans (reportPortQuiet_keeps ..)
  · exact .refl s

theorem statusSent_keeps (p : Port) (t : Token) (s : State) : Keeps s (statusSent p t s) := by
  have habsent : Keeps s { s with monitor := { s.monitor with statusInHand := none } } := setMonitor_keeps rfl rfl
  unfold statusSent
  dsimp only
  split
  · split
    · exact habsent.trans (originateStatus_reacts _).keeps
    · exact habsent
  · exact .refl s

theorem transmissionComplete_keeps (p : Port) (s : State) : Keeps s (transmissionComplete p s) := by
  unfold transmissionComplete
  split
  · exact .refl s
  · exact (((setTx_traffic ..).trans (settleSent_traffic ..)).keeps.trans (statusSent_keeps ..)).trans
      (idleAndPick_traffic ..).keeps

/-! ## The monitor's commands -/

theorem statusClaimRetry_keeps (s : State) : Keeps s (statusClaimRetry s) := by
  have htold : Keeps s { s with monitor := { s.monitor with retryDue := false } } := setMonitor_keeps rfl rfl
  unfold statusClaimRetry
  dsimp only
  split
  · split
    · exact htold.trans (originateStatus_reacts _).keeps
    · exact htold
  · exact .refl s

theorem statusIntervalExpiry_keeps (s : State) : Keeps s (statusIntervalExpiry s) := by
  unfold statusIntervalExpiry
  split
  · exact (wantStatus_reacts _).keeps.after (setMonitor_keeps rfl rfl)
  · exact .refl s

theorem supplyFell_keeps (s : State) : Keeps s (supplyFell s) := by
  unfold supplyFell
  split
  · exact .refl s
  · exact (report_keeps ..).after (setMonitor_keeps rfl rfl)

theorem supplyRose_keeps (s : State) : Keeps s (supplyRose s) := by
  unfold supplyRose
  split
  · exact (report_keeps ..).after (setMonitor_keeps rfl rfl)
  · exact .refl s

/-! ## The lock's expiries -/

theorem releaseQualifyExpiry_keeps (s : State) : Keeps s (releaseQualifyExpiry s) := by
  unfold releaseQualifyExpiry
  split
  next h =>
    refine setLock_keeps fun hs => ?_
    have hrunning : s.lock.releaseQualify ≠ none := fun hnone => by simp [timerDue, hnone] at h
    have hactive : s.lean.mode = .active := by
      refine Classical.byContradiction fun hmode => ?_
      exact hrunning (hs.mode.2.1 hmode).1
    exact ⟨rfl, fun _ => rfl, fun hmode => absurd hactive hmode, fun hmode => by simp [hactive] at hmode⟩
  next => exact .refl s

theorem engageQualifyExpiry_keeps (s : State) : Keeps s (engageQualifyExpiry s) := by
  unfold engageQualifyExpiry
  split
  next h => exact enterSettling_keeps (by simp [h.2])
  next => exact .refl s

theorem confirmExpiryReleasing_keeps (s : State) : Keeps s (confirmExpiryReleasing s) := by
  unfold confirmExpiryReleasing
  split
  · exact (enterEngaged_keeps s).trans (report_keeps ..)
  · exact .refl s

theorem confirmExpiryEngaging_keeps (s : State) : Keeps s (confirmExpiryEngaging s) := by
  unfold confirmExpiryEngaging
  split
  · exact (report_keeps ..).after (setTimers_keeps rfl rfl (.inr rfl))
  · exact .refl s

/-! ## The stage -/

/-- The stage replaced by a legal one while no commit is pending (R186). -/
theorem setStage_keeps {x : Stage} {s : State} (hpending : s.agent.pendingCommit = none)
    (h : StageLegal s → ParametersLegal s → (stageIndices x).length ≤ 8 ∧ (stageIndices x).Pairwise (· < ·)
      ∧ ∀ es, x = .param es → ∀ e ∈ es, paramInRange e.1 e.2 = true) : Keeps s (setStage x s) := by
  refine ⟨rfl, rfl, rfl, rfl, id, id, id, id, fun ⟨hchecks, ⟨hvalid, hrow, _⟩, hbridge⟩ => ?_,
    fun ⟨hlegal, hparams, hmisses⟩ => ?_⟩
  · refine ⟨hchecks, ⟨hvalid, hrow, fun hsome => ?_⟩, hbridge⟩
    exact absurd hsome (by simp [setStage, hpending])
  · obtain ⟨hlen, hsorted, hrange⟩ := h hlegal hparams
    exact ⟨⟨hlen, hsorted⟩, ⟨hparams.1, hrange⟩, hmisses⟩

theorem setStage_empty_keeps {s : State} (hpending : s.agent.pendingCommit = none) : Keeps s (setStage .empty s) :=
  setStage_keeps hpending fun _ _ => ⟨Nat.zero_le _, List.Pairwise.nil, fun _ h => by cases h⟩

/-- The indices of staged entries. -/
def entryIndices {α : Type} {n : Nat} (es : List (Fin n × α)) : List Nat := es.map fun e => e.1.val

theorem mem_stagePut {α : Type} {n : Nat} {es : List (Fin n × α)} {i : Fin n} {x : α} {e : Fin n × α}
    (h : e ∈ stagePut es i x) : e = (i, x) ∨ e ∈ es := by
  induction es with
  | nil => simpa [stagePut] using h
  | cons d rest ih =>
    unfold stagePut at h
    split at h
    · rcases List.mem_cons.1 h with h | h
      · exact .inl h
      · exact .inr (List.mem_cons_of_mem _ h)
    · split at h
      · rcases List.mem_cons.1 h with h | h
        · exact .inl h
        · exact .inr h
      · rcases List.mem_cons.1 h with h | h
        · exact .inr (h ▸ List.mem_cons_self)
        · exact (ih h).imp id (List.mem_cons_of_mem _)

/-- An entry put among sorted entries leaves them sorted (R185). -/
theorem stagePut_sorted {α : Type} {n : Nat} {es : List (Fin n × α)} (i : Fin n) (x : α)
    (h : (entryIndices es).Pairwise (· < ·)) : (entryIndices (stagePut es i x)).Pairwise (· < ·) := by
  induction es with
  | nil => simp [stagePut, entryIndices]
  | cons d rest ih =>
    simp only [entryIndices, List.map_cons, List.pairwise_cons] at h
    obtain ⟨hfirst, hrest⟩ := h
    unfold stagePut
    split
    next heq => simpa [entryIndices, heq] using ⟨by simpa using hfirst, hrest⟩
    next hne =>
      split
      next hlt =>
        have hd : ∀ k ∈ entryIndices rest, i.val < k := fun k hk => Nat.lt_trans hlt (hfirst k hk)
        simp only [entryIndices, List.map_cons, List.pairwise_cons]
        exact ⟨fun k hk => (List.mem_cons.1 hk).elim (fun e => e ▸ hlt) (hd k), hfirst, hrest⟩
      next hge =>
        simp only [entryIndices, List.map_cons, List.pairwise_cons]
        refine ⟨fun k hk => ?_, ih hrest⟩
        obtain ⟨e, he, rfl⟩ := List.mem_map.1 hk
        rcases mem_stagePut he with rfl | he
        · exact Nat.lt_of_le_of_ne (Nat.not_lt.1 hge) fun h => hne (Fin.ext h.symm)
        · exact hfirst _ (List.mem_map.2 ⟨e, he, rfl⟩)

/-- A replacement keeps the number of entries, an addition makes it one more (R186). -/
theorem length_stagePut {α : Type} {n : Nat} (es : List (Fin n × α)) (i : Fin n) (x : α) :
    (stagePut es i x).length ≤ es.length + 1 := by
  induction es with
  | nil => simp [stagePut]
  | cons d rest ih =>
    unfold stagePut
    split
    · simp
    · split
      · simp
      · simpa using ih

theorem length_stagePut_of_holds {α : Type} {n : Nat} {es : List (Fin n × α)} {i : Fin n} (x : α)
    (hsorted : (entryIndices es).Pairwise (· < ·)) (h : stageHolds es i = true) :
    (stagePut es i x).length = es.length := by
  induction es with
  | nil => simp [stageHolds] at h
  | cons d rest ih =>
    simp only [entryIndices, List.map_cons, List.pairwise_cons] at hsorted
    obtain ⟨hfirst, hrest⟩ := hsorted
    unfold stagePut
    split
    next => simp
    next hne =>
      simp only [stageHolds, List.any_cons, Bool.or_eq_true, beq_iff_eq] at h
      have hin : stageHolds rest i = true := h.resolve_left fun e => hne e.symm
      split
      next hlt =>
        obtain ⟨e, he, hei⟩ := List.any_eq_true.1 hin
        have := hfirst _ (List.mem_map.2 ⟨e, he, rfl⟩)
        rw [beq_iff_eq.1 hei] at this
        exact absurd hlt (Nat.lt_asymm this)
      next => simp [ih hrest hin]

/-- What a STAGE_ENTRY puts: sorted, at most 8 entries, each staged before or read now (R185, R186). -/
theorem stageOne_ok {α : Type} {n : Nat} {own : Option (List (Fin n × α))} {index : Option (Fin n)}
    {read : Fin n → Option α} {es' : List (Fin n × α)} (h : stageOne own index read = .ok es')
    (hown : ∀ es, own = some es → (entryIndices es).length ≤ 8 ∧ (entryIndices es).Pairwise (· < ·)) :
    (entryIndices es').length ≤ 8 ∧ (entryIndices es').Pairwise (· < ·)
      ∧ ∃ es, own = some es ∧ ∀ e ∈ es', read e.1 = some e.2 ∨ e ∈ es := by
  unfold stageOne at h
  split at h
  · cases h
  next i =>
    split at h
    · cases h
    next x hread =>
      split at h
      · cases h
      next es =>
        obtain ⟨hlen, hsorted⟩ := hown es rfl
        simp only [entryIndices, List.length_map] at hlen ⊢
        have hmem : ∀ e ∈ stagePut es i x, read e.1 = some e.2 ∨ e ∈ es := fun e he =>
          (mem_stagePut he).imp (fun heq => by rw [heq, hread]) id
        split at h
        next hholds =>
          cases h
          exact ⟨(length_stagePut_of_holds x hsorted hholds).symm ▸ hlen, stagePut_sorted i x hsorted, es, rfl, hmem⟩
        next =>
          split at h
          · cases h
          next hroom =>
            cases h
            have := length_stagePut es i x
            simp only [Config.stageRoom, Nat.not_le] at hroom
            exact ⟨by omega, stagePut_sorted i x hsorted, es, rfl, hmem⟩

theorem stageOne_map_ok {α : Type} {n : Nat} {r : Except Result (List (Fin n × α))} {f : List (Fin n × α) → Stage}
    {x : Stage} (h : r.map f = .ok x) : ∃ es, r = .ok es ∧ x = f es := by
  cases r with
  | error => cases h
  | ok es =>
    cases h
    exact ⟨es, rfl, rfl⟩

/-- The stage after a STAGE_ENTRY is legal, with parameters in range (R185, R186, R198). -/
theorem staged_legal {t : TableName} {index : Byte} {content : List Byte} {stage x : Stage}
    (h : staged t index content stage = .ok x)
    (hlen : (stageIndices stage).length ≤ 8) (hsorted : (stageIndices stage).Pairwise (· < ·))
    (hrange : ∀ es, stage = .param es → ∀ e ∈ es, paramInRange e.1 e.2 = true) :
    (stageIndices x).length ≤ 8 ∧ (stageIndices x).Pairwise (· < ·)
      ∧ ∀ es, x = .param es → ∀ e ∈ es, paramInRange e.1 e.2 = true := by
  cases t with
  | stream =>
    obtain ⟨es, hes, rfl⟩ := stageOne_map_ok h
    have hput := stageOne_ok hes fun es' h' => by
      cases stage <;> cases h'
      · exact ⟨Nat.zero_le _, List.Pairwise.nil⟩
      · exact ⟨hlen, hsorted⟩
    exact ⟨hput.1, hput.2.1, fun _ h => by cases h⟩
  | channel =>
    obtain ⟨es, hes, rfl⟩ := stageOne_map_ok h
    have hput := stageOne_ok hes fun es' h' => by
      cases stage <;> cases h'
      · exact ⟨Nat.zero_le _, List.Pairwise.nil⟩
      · exact ⟨hlen, hsorted⟩
    exact ⟨hput.1, hput.2.1, fun _ h => by cases h⟩
  | envelope =>
    obtain ⟨es, hes, rfl⟩ := stageOne_map_ok h
    have hput := stageOne_ok hes fun es' h' => by
      cases stage <;> cases h'
      · exact ⟨Nat.zero_le _, List.Pairwise.nil⟩
      · exact ⟨hlen, hsorted⟩
    exact ⟨hput.1, hput.2.1, fun _ h => by cases h⟩
  | param =>
    obtain ⟨es, hes, rfl⟩ := stageOne_map_ok h
    obtain ⟨hlen', hsorted', old, hold, hmem⟩ := stageOne_ok hes fun es' h' => by
      cases stage <;> cases h'
      · exact ⟨Nat.zero_le _, List.Pairwise.nil⟩
      · exact ⟨hlen, hsorted⟩
    refine ⟨hlen', hsorted', fun es' h' e he => ?_⟩
    cases h'
    rcases hmem e he with hread | he
    · unfold readParam at hread
      split at hread
      next hin => exact Option.some.inj hread ▸ hin
      next => cases hread
    · cases stage <;> cases hold
      · cases he
      · exact hrange _ rfl e he

theorem pendingCommit_eq_none {s : State} (h : ¬s.agent.pendingCommit.isSome = true) :
    s.agent.pendingCommit = none := by
  simpa using h

theorem stageEntry_keeps (payload : List Byte) (s : State) : Keeps s (stageEntry payload s) := by
  unfold stageEntry
  split
  next => exact answer_keeps ..
  next hpending =>
    split
    next => exact answer_keeps ..
    next =>
      split
      next => exact answer_keeps ..
      next hstaged =>
        refine Keeps.trans (setStage_keeps (pendingCommit_eq_none hpending) fun hlegal hparams => ?_) (answer_keeps ..)
        exact staged_legal hstaged hlegal.1 hlegal.2 hparams.2

theorem discardStage_keeps (payload : List Byte) (s : State) : Keeps s (discardStage payload s) := by
  unfold discardStage
  split
  next => exact answer_keeps ..
  next hpending => exact (setStage_empty_keeps (pendingCommit_eq_none hpending)).trans (answer_keeps ..)

end Sys2Proof.Machine
end

section
/-! PROOF. The walk of `Keeps` along commits and control requests, every command and every step, and the statements on
what every step keeps (O2, O54 to O58). -/

namespace Sys2Proof.Machine

/-! ## Commits -/

/-- What holds of every entry of a table and of every staged entry holds of the table with the stage written over. -/
theorem look_overlay_of_forall {α : Type} {n : Nat} {P : Fin n → α → Prop} {v : Vector α n} {es : List (Fin n × α)}
    (hv : ∀ i, P i (look v i)) (hes : ∀ e ∈ es, P e.1 e.2) (i : Fin n) : P i (look (overlay v es) i) := by
  induction es generalizing v with
  | nil => exact hv i
  | cons e rest ih =>
    refine ih (v := put v e.1 e.2) (fun j => ?_) fun d hd => hes d (List.mem_cons_of_mem _ hd)
    rw [look_put]
    split
    next h => exact h ▸ hes e List.mem_cons_self
    next => exact hv j

theorem stageLegal_empty {s : State} (h : s.agent.stage = .empty) : StageLegal s := by
  simp [StageLegal, h, stageIndices]

section commits
variable {s : State}

/-- A STREAM commit that passed its check (R17, R21). -/
theorem applyStream_keeps {es : List (Fin 24 × StreamEntry)} (hpending : s.agent.pendingCommit = none)
    (hvalid : streamTableValid (overlay s.classifier.table es) = true) : Keeps s (applyStream es s) := by
  have hclosed : Keeps s
      (closeCommit { s with classifier := { s.classifier with table := overlay s.classifier.table es } }) := by
    refine ⟨rfl, rfl, rfl, rfl, id, id, id, id, fun ⟨⟨hc, _, hp⟩, ⟨he, hrow, _⟩, hbridge⟩ => ?_,
      fun ⟨_, hparams, hmisses⟩ => ?_⟩
    · exact ⟨⟨hc, hvalid, hp⟩, ⟨he, hrow, fun h => absurd (hpending ▸ h : (none : Option CommitPending).isSome = true)
        (by simp)⟩, hbridge⟩
    · exact ⟨stageLegal_empty rfl, ⟨hparams.1, fun _ h => by cases h⟩, hmisses⟩
  unfold applyStream
  dsimp only
  split
  · refine hclosed.trans ?_
    generalize closeCommit _ = u
    unfold endOpenMode
    split
    · split
      next hmode =>
        refine ⟨rfl, rfl, rfl, rfl, id, fun _ h => absurd h (by simp), id, fun ⟨hline, honly, houtside, hrest⟩ => ?_,
          fun ⟨hchecks, henvelope, _⟩ => ⟨hchecks, henvelope, by simp [BridgeIsOpenMode]⟩, id⟩
        exact ⟨hline, honly, fun _ => houtside (by simp [hmode]), fun _ => hrest (.inl hmode)⟩
      all_goals
        next hmode =>
          exact ⟨rfl, rfl, rfl, rfl, id, id, id, id,
            fun ⟨hchecks, henvelope, _⟩ => ⟨hchecks, henvelope, by simp [BridgeIsOpenMode, hmode]⟩, id⟩
    · exact .refl u
  · exact hclosed

theorem reportRoles_keeps (old : Vector ChannelEntry 16) (s : State) : Keeps s (reportRoles old s) := by
  have hrole (r : Role) (u : State) : Keeps u (reportRole old r u) := by
    unfold reportRole
    split
    · exact .refl u
    · exact reportStaleOf_keeps ..
  unfold reportRoles
  generalize requiredRoles = roles
  induction roles generalizing s with
  | nil => exact .refl s
  | cons r rest ih => exact (hrole r s).trans (ih _)

/-- A CHANNEL commit that passed its check (R49, R69, R70). -/
theorem applyChannel_keeps {es : List (Fin 16 × ChannelEntry)} (hpending : s.agent.pendingCommit = none)
    (hvalid : channelTableValid (overlay s.channels.table es) = true) : Keeps s (applyChannel es s) := by
  unfold applyChannel
  dsimp only
  refine (reportRoles_keeps ..).after ⟨rfl, rfl, rfl, rfl, id, id, id, id,
    fun ⟨⟨_, hs, hp⟩, ⟨he, hrow, _⟩, hbridge⟩ => ?_, fun ⟨_, hparams, hmisses⟩ => ?_⟩
  · exact ⟨⟨hvalid, hs, hp⟩, ⟨he, hrow, fun h => absurd (hpending ▸ h : (none : Option CommitPending).isSome = true)
      (by simp)⟩, hbridge⟩
  · exact ⟨stageLegal_empty rfl, ⟨hparams.1, fun _ h => by cases h⟩, hmisses⟩

/-- ALERT judged is ALERT as the latches give it (R168). -/
theorem judgeAlert_alertFollows (s : State) : AlertFollows (judgeAlert s) := rfl

theorem settleFaults_of_judged {old : Vector FaultRecord 16} {u : State} (h : Keeps s (judgeAlert u)) :
    Keeps s (settleFaults old u) := by
  unfold settleFaults
  dsimp only
  split
  · exact h.trans (wantStatus_reacts _).keeps
  · exact h

/-- The state in which the parameters of a PARAM commit are in force and the owners have taken them, before the fault
monitor judges (R193, R164). -/
def paramsTaken (es : List (Fin 44 × Word)) (s : State) : State :=
  resetMutedKinds
    (restartOwners (closeCommit { s with agent := { s.agent with params := overlay s.agent.params es } }))

theorem faults_paramsTaken (es : List (Fin 44 × Word)) (s : State) (i : Fin 16) :
    look (paramsTaken es s).monitor.faults i =
      if severityAt i (paramsTaken es s) = 0 then FaultRecord.atReset else look s.monitor.faults i := by
  simp only [paramsTaken, resetMutedKinds, look, Vector.getElem_ofFn]
  rfl

/-- The owners of parameters are receivers, slots, fault monitor and agent (R193, R164, R190). -/
theorem paramsTaken_eq (es : List (Fin 44 × Word)) (s : State) :
    paramsTaken es s =
      { s with
        rx := (paramsTaken es s).rx, drives := (paramsTaken es s).drives, monitor := (paramsTaken es s).monitor
        agent := (paramsTaken es s).agent } := by
  simp [paramsTaken, resetMutedKinds, restartOwners, restartQuiet, forgiveMisses, closeCommit]

theorem drives_paramsTaken (es : List (Fin 44 × Word)) (s : State) (d : Drive) :
    (paramsTaken es s).drives.get d = { s.drives.get d with misses := 0 } := by
  cases d <;> rfl

theorem agent_paramsTaken (es : List (Fin 44 × Word)) (s : State) :
    (paramsTaken es s).agent =
      { s.agent with
        stage := .empty, params := overlay s.agent.params es
        counters := { s.agent.counters with commitsApplied := bump s.agent.counters.commitsApplied } } := by
  simp only [paramsTaken, resetMutedKinds, restartOwners, restartQuiet, forgiveMisses, closeCommit, setRx_agent,
    setSlot_agent]
  rfl

/-- Owners and parameters replaced outside ACTIVE, with no stage and no pending commit, and ALERT judged. -/
theorem judgeOwners_keeps {x : Ports Receiver} {y : Drives} {m : Monitor} {a : Agent}
    (hmode : s.lean.mode ≠ .active) (hstage : a.stage = .empty) (hpending : a.pendingCommit = none)
    (hvalid : paramTableValid a.params = true) (hmisses : ∀ d, (y.get d).misses = 0)
    (hrange : ParametersLegal s → ∀ i, paramInRange i (look a.params i) = true)
    (hlatched : ActiveImpliesLatched s →
      ActiveImpliesLatched { s with rx := x, drives := y, monitor := m, agent := a }) :
    Keeps s (judgeAlert { s with rx := x, drives := y, monitor := m, agent := a }) := by
  refine ⟨rfl, rfl, rfl, rfl, fun _ => judgeAlert_alertFollows _, fun _ h => absurd h hmode, hlatched, id,
    fun ⟨⟨hc, hs, _⟩, ⟨he, hrow, _⟩, hbridge⟩ => ?_, fun ⟨_, hparams, _⟩ => ?_⟩
  · exact ⟨⟨hc, hs, hvalid⟩, ⟨he, hrow, fun h => absurd (hpending ▸ h : (none : Option CommitPending).isSome = true)
      (by simp)⟩, hbridge⟩
  · have hlegal : ParametersLegal (judgeAlert { s with rx := x, drives := y, monitor := m, agent := a }) :=
      ⟨hrange hparams, fun _ h => by cases hstage.symm.trans h⟩
    refine ⟨stageLegal_empty hstage, hlegal, fun d => ?_⟩
    have hzero : ((judgeAlert { s with rx := x, drives := y, monitor := m, agent := a }).drives.get d).misses = 0 :=
      hmisses d
    rw [hzero]
    exact ⟨Nat.zero_le _, fun _ => missLimit_pos hlegal⟩

/-- A PARAM commit that passed its check, outside ACTIVE (R189, R193). -/
theorem applyParam_keeps {es : List (Fin 44 × Word)} (hpending : s.agent.pendingCommit = none)
    (hstage : s.agent.stage = .param es) (hvalid : paramTableValid (overlay s.agent.params es) = true)
    (hmode : s.lean.mode ≠ .active) : Keeps s (applyParam es s) := by
  refine settleFaults_of_judged (u := paramsTaken es s) ?_
  rw [paramsTaken_eq]
  refine judgeOwners_keeps hmode ?_ ?_ ?_ (fun d => ?_) (fun hparams => ?_) fun hlatched k => ?_
  · rw [agent_paramsTaken]
  · rw [agent_paramsTaken]
    exact hpending
  · rw [agent_paramsTaken]
    exact hvalid
  · rw [drives_paramsTaken]
  · rw [agent_paramsTaken]
    exact look_overlay_of_forall (P := fun i w => paramInRange i w = true) hparams.1 (hparams.2 es hstage)
  · simp only [faultRecord, faults_paramsTaken]
    split
    · simp [FaultRecord.atReset]
    · exact hlatched k

/-- An ENVELOPE commit that passed its check: applied, or held with a stage that makes a valid envelope (R191). -/
theorem finishEnvelope_keeps {es : List (Fin 12 × EnvelopeRow)} (hpending : s.agent.pendingCommit = none)
    (hstage : s.agent.stage = .envelope es) (hvalid : envelopeValid (overlay s.envelope.rows es) = true) :
    Keeps s (finishEnvelope es s) := by
  unfold finishEnvelope
  split
  · refine (answer_keeps ..).after ⟨rfl, rfl, rfl, rfl, id, id, id, id,
      fun ⟨hchecks, _, hbridge⟩ => ⟨hchecks, ⟨fun _ => hvalid, (fun _ h => nomatch h), fun h => ?_⟩, hbridge⟩,
      fun ⟨_, hparams, hmisses⟩ => ⟨stageLegal_empty rfl, ⟨hparams.1, (fun _ h => nomatch h)⟩, hmisses⟩⟩
    exact absurd (hpending ▸ h : (none : Option CommitPending).isSome = true) (by simp)
  · unfold holdCommit
    split
    · exact .refl s
    next rq _ =>
      dsimp only
      have hreleased := releaseBuffer_traffic rq.request s
      refine (nextRequest_keeps _).after (hreleased.keeps.trans ⟨rfl, rfl, rfl, rfl, id, id, id, id,
        fun ⟨hchecks, ⟨he, hrow, _⟩, hbridge⟩ => ⟨hchecks, ⟨he, hrow, fun _ => ⟨es, ?_, ?_⟩⟩, hbridge⟩, id⟩)
      · show (releaseBuffer rq.request s).agent.stage = _
        rw [hreleased.agent, hstage]
      · show envelopeValid (overlay (releaseBuffer rq.request s).envelope.rows es) = true
        rw [hreleased.envelope, hvalid]

theorem judgeCommit_keeps {sum check : Word} {valid refused : Bool} {finish : State → State}
    (hpending : s.agent.pendingCommit = none) (h : valid = true → refused = false → Keeps s (finish s)) :
    Keeps s (judgeCommit sum check valid refused finish s) := by
  have hemptied := setStage_empty_keeps hpending
  unfold judgeCommit
  split
  · exact (answer_keeps ..).after (hemptied.trans (setAgentCounters_keeps ..))
  · split
    · exact (answer_keeps ..).after hemptied
    next hvalid =>
      split
      · exact answer_keeps ..
      next hrefused => exact h (by simpa using hvalid) (by simpa using hrefused)

theorem mode_ne_active_of_not_control {m : Mode} (h : controlMode m = false) : m ≠ .active := by
  rintro rfl
  cases h

theorem commitStage_keeps {check : Word} (hpending : s.agent.pendingCommit = none) :
    Keeps s (commitStage s.agent.stage check s) := by
  cases hstage : s.agent.stage with
  | empty => exact answer_keeps ..
  | stream es =>
    exact judgeCommit_keeps (finish := fun s => answer .done [] (applyStream es s)) hpending fun hvalid _ =>
      (answer_keeps ..).after (applyStream_keeps hpending hvalid)
  | channel es =>
    exact judgeCommit_keeps (finish := fun s => answer .done [] (applyChannel es s)) hpending fun hvalid _ =>
      (answer_keeps ..).after (applyChannel_keeps hpending hvalid)
  | envelope es => exact judgeCommit_keeps hpending fun hvalid _ => finishEnvelope_keeps hpending hstage hvalid
  | param es =>
    exact judgeCommit_keeps (finish := fun s => answer .done [] (applyParam es s)) hpending fun hvalid hrefused =>
      (answer_keeps ..).after (applyParam_keeps hpending hstage hvalid (mode_ne_active_of_not_control hrefused))

theorem commit_keeps (payload : List Byte) (s : State) : Keeps s (commit payload s) := by
  unfold commit
  split
  next => exact answer_keeps ..
  next hpending =>
    split
    next => exact answer_keeps ..
    next =>
      split
      · exact answer_keeps ..
      · split
        · exact commitStage_keeps (pendingCommit_eq_none hpending)
        · exact answer_keeps ..

end commits

/-! ## The other requests -/

theorem malformedRequest_keeps (s : State) : Keeps s (malformedRequest s) := by
  unfold malformedRequest
  split
  · exact .refl s
  · split
    · exact answer_keeps ..
    · exact .refl s

theorem readEntry_keeps (payload : List Byte) (s : State) : Keeps s (readEntry payload s) := by
  unfold readEntry
  split
  · exact answer_keeps ..
  · split <;> exact answer_keeps ..

theorem readCounters_keeps (payload : List Byte) (s : State) : Keeps s (readCounters payload s) := by
  unfold readCounters
  split
  · exact answer_keeps ..
  · split <;> exact answer_keeps ..

theorem clearPort_keeps (p : Port) (s : State) : Keeps s (clearPort p s) :=
  (setRx_keeps ..).trans (setTx_traffic ..).keeps

theorem clearGroup_keeps (g : CounterGroup) (s : State) : Keeps s (clearGroup g s) := by
  cases g with
  | cockpitPort => exact clearPort_keeps ..
  | chassisPort => exact clearPort_keeps ..
  | stream => exact setStreamCounters_keeps ..
  | channel => exact setRecords_keeps ..
  | lean => exact setLeanCounters_keeps (fun _ => LeanCounters.zero) s
  | drive =>
    exact Quiet.keeps ⟨⟨rfl, rfl, rfl, rfl, rfl, rfl, rfl, rfl⟩, rfl, rfl, rfl, rfl, rfl, rfl, rfl, rfl, ⟨rfl, rfl⟩,
      ⟨rfl, rfl⟩⟩
  | mgmt => exact setAgentCounters_keeps (fun _ => AgentCounters.zero) s

theorem clearCounters_keeps (payload : List Byte) (s : State) : Keeps s (clearCounters payload s) := by
  unfold clearCounters
  split
  · exact answer_keeps ..
  · exact (clearGroup_keeps ..).trans (answer_keeps ..)

theorem faultRecord_clearLatches (k : FaultKind) (s : State) :
    faultRecord k (clearLatches s) =
      if (faultRecord k s).active then faultRecord k s
      else { faultRecord k s with latched := false, occurrences := 0 } := by
  simp only [faultRecord, clearLatches, look, Vector.getElem_ofFn]
  rfl

/-- The clearing of the latches leaves no kind latched that was not (R167). -/
theorem clearLatches_latched {s : State} {i : Fin 16} (h : (look (clearLatches s).monitor.faults i).latched = true) :
    (look s.monitor.faults i).latched = true := by
  obtain ⟨k, rfl⟩ := exists_faultIndex_eq i
  have hk : (faultRecord k (clearLatches s)).latched = true := h
  rw [faultRecord_clearLatches] at hk
  split at hk
  · exact hk
  · cases hk

/-- The clearing of the latches changes the monitor alone. -/
theorem clearLatches_eq (s : State) : clearLatches s = { s with monitor := (clearLatches s).monitor } := by
  simp only [clearLatches]

theorem clearTable_keeps (s : State) : Keeps s (clearTable s) := by
  have hrecord (k : FaultKind) := faultRecord_clearLatches k s
  have hlatched (i : Fin 16) := clearLatches_latched (s := s) (i := i)
  refine settleFaults_of_judged ?_
  rw [clearLatches_eq] at hrecord hlatched ⊢
  generalize (clearLatches s).monitor = m at hrecord hlatched ⊢
  refine ⟨rfl, rfl, rfl, rfl, fun _ => judgeAlert_alertFollows _, fun hclean hmode => ?_, fun hs k hactive => ?_, id, id,
    id⟩
  · have hbefore := (latchedAtSeverity_eq_false_iff 2 s).1 (hclean hmode)
    exact (latchedAtSeverity_eq_false_iff ..).2 fun k hk => hbefore k (hlatched _ hk)
  · have hk : faultRecord k (judgeAlert { s with monitor := m }) = _ := hrecord k
    rw [hk] at hactive ⊢
    split at hactive
    next h =>
      rw [if_pos h]
      exact hs k hactive
    next h => exact absurd hactive h

theorem clearFaults_keeps (payload : List Byte) (s : State) : Keeps s (clearFaults payload s) := by
  unfold clearFaults
  refine (answer_keeps ..).after ((clearTable_keeps _).after (Keeps.after (report_keeps ..) ?_))
  exact (clearSlot_keeps ..).trans (clearSlot_keeps ..)

/-- ACTIVE is entered with no kind of severity 2 or 3 latched (R194, R90). -/
theorem enterActive_keeps {s : State} (h : engageResult s = .done) : Keeps s (enterActive s) := by
  have hready : ¬latchedAtSeverity 2 s = true ∧ s.lean.mode ≠ .bridge := by
    unfold engageResult at h
    split at h
    · cases h
    · cases h
    all_goals
      next hmode =>
        split at h
        · cases h
        · split at h
          · cases h
          next hlatched => exact ⟨hlatched, by simp [hmode]⟩
  obtain ⟨hclean, hmode⟩ := hready
  refine ⟨rfl, rfl, rfl, rfl, id, fun _ _ => eq_false_of_ne_true hclean, id, fun ⟨hline, honly, _⟩ => ?_,
    fun ⟨hchecks, henvelope, hbridge⟩ => ⟨hchecks, henvelope, ?_⟩, id⟩
  · exact ⟨hline, honly, fun hm => absurd rfl hm, fun hm => by simp [enterActive] at hm⟩
  · have hclosed : ¬s.classifier.openMode = true := mt hbridge.2 hmode
    exact ⟨fun hm => by simp [enterActive] at hm, fun ho => absurd ho hclosed⟩

theorem engageControl_keeps (payload : List Byte) (s : State) : Keeps s (engageControl payload s) := by
  unfold engageControl
  refine (answer_keeps ..).after ?_
  split
  next h => exact enterActive_keeps h
  next => exact .refl s

theorem releaseControl_keeps (payload : List Byte) (s : State) : Keeps s (releaseControl payload s) := by
  unfold releaseControl
  split
  · exact answer_keeps ..
  · exact (answer_keeps ..).after (moveToRecover_reacts s).keeps
  all_goals exact answer_keeps ..

/-! ## Resets -/

/-- Every invariant of `Keeps`, with ALERT as the reset asks for it. -/
structure Rested (s : State) : Prop where
  alert : AlertRight s
  clean : ActiveIsClean s
  latched : ActiveImpliesLatched s
  lock : LockSound s
  tables : TablesSound s
  stage : StageSound s

theorem faultRecord_resetBlocks (k : FaultKind) (r : ResetControl) (n : BitVec 6) (s : State) :
    faultRecord k (resetBlocks r n s) = FaultRecord.atReset :=
  look_replicate ..

theorem paramReset_inRange : ∀ i, paramInRange i (look paramReset i) = true := by decide

/-- The reset values have all that every step keeps, but for what a held reset asks of ALERT. -/
theorem resetBlocks_sound (r : ResetControl) (n : BitVec 6) (s : State) :
    AlertFollows (resetBlocks r n s) ∧ ActiveIsClean (resetBlocks r n s) ∧ ActiveImpliesLatched (resetBlocks r n s)
      ∧ LockSound (resetBlocks r n s) ∧ TablesSound (resetBlocks r n s) ∧ StageSound (resetBlocks r n s) := by
  have hparams : ParametersLegal (resetBlocks r n s) := ⟨paramReset_inRange, fun _ h => by cases h⟩
  refine ⟨?_, (fun h => nomatch h), fun k h => ?_, LockSound.of_engaged rfl rfl rfl,
    ⟨⟨?_, ?_, ?_⟩, ⟨?_, ?_, ?_⟩, ?_⟩, stageLegal_empty rfl, hparams, fun d => ?_⟩
  · have hlook (i : Fin 16) : (look (resetBlocks r n s).monitor.faults i).latched = false := by
      rw [show look (resetBlocks r n s).monitor.faults i = FaultRecord.atReset from look_replicate ..]
      rfl
    have hwanted : alertWanted (resetBlocks r n s) = false := by simp [alertWanted, hlook]
    exact hwanted.symm
  · rw [faultRecord_resetBlocks] at h
    cases h
  · show channelTableValid (Vector.replicate 16 ChannelEntry.atReset) = true
    decide
  · show streamTableValid (Vector.replicate 24 StreamEntry.atReset) = true
    decide
  · show paramTableValid paramReset = true
    decide
  · exact fun h => by cases h
  · exact fun _ h => by cases h
  · exact fun h => by cases h
  · exact ⟨fun _ => rfl, fun _ => rfl⟩
  · cases d <;> exact ⟨Nat.zero_le _, fun _ => missLimit_pos hparams⟩

/-- The beginning of a reset of a kind not held yet (R177). -/
theorem beginReset_of_not_held {k : ResetKind} {s : State} (h : resetHeld k s.resets = false) :
    beginReset k s =
      { resetBlocks { setHeld k true s.resets with lastBegun := k } s.node s with
        monitor := { Monitor.atReset with alert := true } } := by
  simp only [beginReset, h]
  rfl

end Sys2Proof.Machine
end

section
/-! PROOF. Every command and every step (O1, O2, O54 to O58, O60). -/

namespace Sys2Proof.Machine

/-! ## The resets -/

theorem inReset_setHeld (k : ResetKind) (l : ResetKind) (s t : State)
    (h : t.resets = { setHeld k true s.resets with lastBegun := l }) : inReset t = true := by
  rw [inReset, h]
  cases k <;> simp [setHeld]

/-- A reset that begins puts everything at rest, with ALERT asserted (R177, R169). -/
theorem beginReset_rested {k : ResetKind} {s : State} (h : resetHeld k s.resets = false) :
    Rested (beginReset k s) := by
  rw [beginReset_of_not_held h]
  obtain ⟨-, hclean, hlatched, hlock, htables, hstage⟩ :=
    resetBlocks_sound { setHeld k true s.resets with lastBegun := k } s.node s
  refine ⟨?_, hclean, hlatched, hlock, htables, hstage⟩
  rw [AlertRight, inReset_setHeld k k s _ rfl]
  rfl

theorem AlertFollows.right {s : State} (h : AlertFollows s) (hreset : inReset s = false) : AlertRight s := by
  rw [AlertRight, hreset, Bool.false_or]
  exact h

theorem AlertRight.follows {s : State} (h : AlertRight s) (hreset : inReset s = false) : AlertFollows s := by
  rwa [AlertRight, hreset, Bool.false_or] at h

theorem inReset_of_resets {s t : State} (h : t.resets = s.resets) : inReset t = inReset s := by
  rw [inReset, inReset, h]

/-- What follows the reset values at the end of a reset keeps all invariants (R173, R176). -/
theorem leaveReset_keeps (r : ResetControl) (straps : BitVec 6) (low : Bool) (s : State) :
    Keeps (resetBlocks { r with cause := r.lastBegun } straps s) (leaveReset r straps low s) := by
  refine (originateStatus_reacts _).keeps.after ?_
  generalize resetBlocks { r with cause := r.lastBegun } straps s = u
  unfold judgeSupply
  split
  · exact (report_keeps ..).after (setMonitor_keeps rfl rfl)
  · exact .refl u

theorem leaveReset_rested {r : ResetControl} (straps : BitVec 6) (low : Bool) {s : State}
    (h : inReset { s with resets := r } = false) : Rested (leaveReset r straps low s) := by
  obtain ⟨halert, hclean, hlatched, hlock, htables, hstage⟩ :=
    resetBlocks_sound { r with cause := r.lastBegun } straps s
  have hkeeps := leaveReset_keeps r straps low s
  have hout : inReset (leaveReset r straps low s) = false := (inReset_of_resets hkeeps.resets).trans h
  exact ⟨(hkeeps.alert halert).right hout, hkeeps.clean hclean, hkeeps.latched hlatched, hkeeps.lock hlock,
    hkeeps.tables htables, hkeeps.stage hstage⟩

/-! ## What a command can do -/

/-- The model's own fields are as before. -/
def KeepsOwn (s t : State) : Prop := t.pending = s.pending ∧ t.now = s.now ∧ t.freeIndex = s.freeIndex

theorem Keeps.own {s t : State} (h : Keeps s t) : KeepsOwn s t := ⟨h.pending, h.now, h.freeIndex⟩

/-- The four things a command can do: nothing, an effect outside reset, the beginning of a reset or the end of the last
one, the end of one reset while another is held. -/
inductive Does (s : State) : State → Prop
  | nothing : Does s s
  | effect {t : State} : inReset s = false → Keeps s t → Does s t
  | reset {t : State} : KeepsOwn s t → Rested t → Does s t
  | held {r : ResetControl} : inReset s = true → inReset { s with resets := r } = true → Does s { s with resets := r }

/-- While a reset is held a command changes nothing (R177). -/
theorem unlessReset_of_inReset (f : State → State) {s : State} (h : inReset s = true) :
    unlessReset f s = .next s := by
  simp [unlessReset, h]

theorem unlessReset_does {f : State → State} {s : State} (h : Keeps s (f s)) :
    ∃ t, unlessReset f s = .next t ∧ Does s t := by
  cases hreset : inReset s with
  | true => exact ⟨s, unlessReset_of_inReset f hreset, .nothing⟩
  | false => exact ⟨f s, unlessReset_of_not_inReset f hreset, .effect hreset h⟩

theorem beginReset_own (k : ResetKind) (s : State) : KeepsOwn s (beginReset k s) := by
  unfold beginReset
  split <;> exact ⟨rfl, rfl, rfl⟩

theorem beginReset_does (k : ResetKind) (s : State) : Does s (beginReset k s) := by
  cases h : resetHeld k s.resets with
  | true =>
    simp only [beginReset, h, if_true]
    exact .nothing
  | false => exact .reset (beginReset_own k s) (beginReset_rested h)

theorem inReset_of_resetHeld {k : ResetKind} {s : State} (h : resetHeld k s.resets = true) : inReset s = true := by
  cases k <;> simp_all [resetHeld, inReset]

theorem endReset_does (k : ResetKind) (straps : BitVec 6) (low : Bool) (s : State) :
    Does s (endReset k straps low s) := by
  unfold endReset
  dsimp only
  split
  next hheld =>
    split
    next h => exact .held (inReset_of_resetHeld hheld) h
    next h =>
      have hown := (leaveReset_keeps (setHeld k false s.resets) straps low
        { s with resets := setHeld k false s.resets }).own
      exact .reset hown (leaveReset_rested straps low (s := { s with resets := setHeld k false s.resets })
        (eq_false_of_ne_true h))
  next => exact .nothing

/-- RESET is answered, or begins a management reset (R195). -/
theorem reset_does {s : State} : ∃ t, exec .reset s = .next t ∧ Does s t := by
  cases hreset : inReset s with
  | true => exact ⟨s, unlessReset_of_inReset _ hreset, .nothing⟩
  | false =>
    refine ⟨completeRequest .reset resetRequest s, unlessReset_of_not_inReset _ hreset, ?_⟩
    unfold completeRequest
    split
    · exact .nothing
    · split
      · exact .effect hreset (answer_keeps ..)
      · unfold resetRequest
        split
        · exact .effect hreset (answer_keeps ..)
        · exact beginReset_does ..

/-- Every command completes, and does one of these. -/
theorem exec_does (c : Instr) (s : State) : ∃ t, exec c s = .next t ∧ Does s t := by
  cases c with
  | frameStart p => exact unlessReset_does ((cutFrame_keeps p s).trans (setRx_keeps ..))
  | headerComplete p b0 b1 b2 b3 => exact unlessReset_does (headerComplete_keeps ..)
  | discardEnd p => exact unlessReset_does (discardEnd_keeps ..)
  | frameEnd p body => exact unlessReset_does (frameEnd_keeps ..)
  | lineFault p => exact unlessReset_does (cutFrame_keeps ..)
  | quietTimerExpiry p => exact unlessReset_does (quietTimerExpiry_keeps ..)
  | freshnessTimerExpiry c => exact unlessReset_does (freshnessTimerExpiry_keeps ..)
  | transmissionComplete p => exact unlessReset_does (transmissionComplete_keeps ..)
  | cycleTimerExpiry => exact unlessReset_does (cycleTimerExpiry_keeps s)
  | cycleCompletion => exact unlessReset_does (cycleCompletion_keeps s)
  | releaseQualifyExpiry => exact unlessReset_does (releaseQualifyExpiry_keeps s)
  | confirmExpiryReleasing => exact unlessReset_does (confirmExpiryReleasing_keeps s)
  | engageQualifyExpiry => exact unlessReset_does (engageQualifyExpiry_keeps s)
  | confirmExpiryEngaging => exact unlessReset_does (confirmExpiryEngaging_keeps s)
  | ackTimerExpiry d => exact unlessReset_does (ackTimerExpiry_keeps ..)
  | statusClaimRetry => exact unlessReset_does (statusClaimRetry_keeps s)
  | statusIntervalExpiry => exact unlessReset_does (statusIntervalExpiry_keeps s)
  | supplyLow => exact unlessReset_does (supplyFell_keeps s)
  | supplyRestored => exact unlessReset_does (supplyRose_keeps s)
  | powerOnReset => exact ⟨_, rfl, beginReset_does .power s⟩
  | powerOnResetEnd straps low => exact ⟨_, rfl, endReset_does .power straps low s⟩
  | pinReset => exact ⟨_, rfl, beginReset_does .pin s⟩
  | pinResetEnd straps low => exact ⟨_, rfl, endReset_does .pin straps low s⟩
  | managementResetEnd straps low => exact ⟨_, rfl, endReset_does .management straps low s⟩
  | malformedRequest => exact unlessReset_does (malformedRequest_keeps s)
  | readState => exact unlessReset_does (completeRequest_keeps fun _ => answer_keeps ..)
  | readEntry => exact unlessReset_does (completeRequest_keeps fun _ => readEntry_keeps ..)
  | stageEntry => exact unlessReset_does (completeRequest_keeps fun _ => stageEntry_keeps ..)
  | discardStage => exact unlessReset_does (completeRequest_keeps fun _ => discardStage_keeps ..)
  | commit => exact unlessReset_does (completeRequest_keeps fun _ => commit_keeps ..)
  | readCounters => exact unlessReset_does (completeRequest_keeps fun _ => readCounters_keeps ..)
  | clearCounters => exact unlessReset_does (completeRequest_keeps fun _ => clearCounters_keeps ..)
  | clearFaults => exact unlessReset_does (completeRequest_keeps fun _ => clearFaults_keeps ..)
  | engageControl => exact unlessReset_does (completeRequest_keeps fun _ => engageControl_keeps ..)
  | releaseControl => exact unlessReset_does (completeRequest_keeps fun _ => releaseControl_keeps ..)
  | reset => exact reset_does

/-! ## What a step can do -/

/-- What every step keeps: what the four things a command can do keep, and what the model's own fields and the timers
do not tell. -/
theorem step_preserves {I : State → Prop} (heffect : ∀ s t, inReset s = false → Keeps s t → I s → I t)
    (hrested : ∀ t, Rested t → I t)
    (hheld : ∀ s r, inReset s = true → inReset { s with resets := r } = true → I s → I { s with resets := r })
    (hown : ∀ s cs n f, I s → I { s with pending := cs, now := n, freeIndex := f }) (htimers : ∀ s, I s → I (tickTimers s))
    {s t : State} (hs : I s) (h : step s = .next t) : I t := by
  unfold step at h
  split at h
  next hempty =>
    cases h
    unfold tick
    split
    · exact hown s s.pending _ s.freeIndex hs
    · split
      · exact hown s _ s.now s.freeIndex hs
      · exact hown _ _ (s.now + 1) _ (htimers _ (hown s s.pending (s.now + 1) s.freeIndex hs))
  next c rest _ =>
    have hfront : I { s with pending := rest } := hown s rest s.now s.freeIndex hs
    obtain ⟨u, hu, hdoes⟩ := exec_does c { s with pending := rest }
    rw [hu] at h
    cases h
    cases hdoes with
    | nothing => exact hfront
    | effect hreset hkeeps => exact heffect _ _ hreset hkeeps hfront
    | reset _ hrest => exact hrested _ hrest
    | held hreset hreset' => exact hheld _ _ hreset hreset' hfront

theorem tickTimers_keepsLock {s : State} (h : LockSound s) : LockSound (tickTimers s) := by
  obtain ⟨hline, honly, houtside, hrest⟩ := h
  have hnone (h : s.lock.releaseQualify = none) : (tickTimers s).lock.releaseQualify = none :=
    congrArg tickTimer h
  exact ⟨hline, fun h => hnone (honly h), fun h => ⟨hnone (houtside h).1, (houtside h).2⟩, hrest⟩

/-! ## The obligations -/

/-- Settles O1: by the definition of a step. -/
theorem stepTakesTheFrontCommand : Obligations.StepTakesTheFrontCommand := fun _ _ _ => rfl

/-- Settles O2: by the four things a command can do. -/
theorem everyCommandCompletesAndKeepsTheQueue : Obligations.EveryCommandCompletesAndKeepsTheQueue := by
  intro c s
  obtain ⟨t, ht, hdoes⟩ := exec_does c s
  refine ⟨t, ht, ?_⟩
  cases hdoes with
  | nothing => exact ⟨rfl, rfl, rfl⟩
  | effect _ hkeeps => exact hkeeps.own
  | reset hown _ => exact hown
  | held _ _ => exact ⟨rfl, rfl, rfl⟩

/-- Settles O54: outside reset every effect ends with ALERT judged; in reset it is asserted. -/
theorem everyStepKeepsAlert : Obligations.EveryStepKeepsAlert := by
  intro s t hs h
  refine step_preserves (I := AlertRight) (fun s t hreset hkeeps h => ?_) (fun _ hrest => hrest.alert)
    (fun s r hreset hreset' h => ?_) (fun _ _ _ _ => id) (fun _ => id) hs h
  · exact (hkeeps.alert (h.follows hreset)).right ((inReset_of_resets hkeeps.resets).trans hreset)
  · rw [AlertRight, hreset, Bool.true_or] at h
    rw [AlertRight, hreset', Bool.true_or]
    exact h

/-- Settles O55: by what every effect keeps of ACTIVE and of the latches. -/
theorem everyStepKeepsActiveClean : Obligations.EveryStepKeepsActiveClean := by
  intro s t hclean hlatched h
  exact step_preserves (I := fun s => ActiveIsClean s ∧ ActiveImpliesLatched s)
    (fun _ _ _ hkeeps hs => ⟨hkeeps.clean hs.1, hkeeps.latched hs.2⟩)
    (fun _ hrest => ⟨hrest.clean, hrest.latched⟩) (fun _ _ _ _ => id) (fun _ _ _ _ => id) (fun _ => id)
    ⟨hclean, hlatched⟩ h

/-- Settles O56: by what every effect keeps of the lock; a stopped timer stays stopped as time passes. -/
theorem everyStepKeepsTheLock : Obligations.EveryStepKeepsTheLock := by
  intro s t hline hmode h
  exact step_preserves (I := LockSound) (fun _ _ _ hkeeps => hkeeps.lock) (fun _ hrest => hrest.lock)
    (fun _ _ _ _ => id) (fun _ _ _ _ => id) (fun _ => tickTimers_keepsLock) ⟨hline, hmode⟩ h

/-- Settles O57: by what every effect keeps of the tables, the envelope and open mode. -/
theorem everyStepKeepsTheTablesSound : Obligations.EveryStepKeepsTheTablesSound := by
  intro s t hchecks henvelope hbridge h
  exact step_preserves (I := TablesSound) (fun _ _ _ hkeeps => hkeeps.tables) (fun _ hrest => hrest.tables)
    (fun _ _ _ _ => id) (fun _ _ _ _ => id) (fun _ => id) ⟨hchecks, henvelope, hbridge⟩ h

/-- Settles O58: by what every effect keeps of the stage, the parameters and the misses. -/
theorem everyStepKeepsStageParametersAndMisses : Obligations.EveryStepKeepsStageParametersAndMisses := by
  intro s t hstage hparams hmisses h
  exact step_preserves (I := StageSound) (fun _ _ _ hkeeps => hkeeps.stage) (fun _ hrest => hrest.stage)
    (fun _ _ _ _ => id) (fun _ _ _ _ => id)
    (fun s => StageSound.of_eq rfl rfl fun d => by cases d <;> exact id) ⟨hstage, hparams, hmisses⟩ h

end Sys2Proof.Machine
end

section
/-! PROOF. The ledger of the pool: each buffer stands once where its state says, also between the parts of an effect, when
a buffer is in the hands of the operation itself (R31, R36, R125, R127, R130, R171). -/

namespace Sys2Proof.Machine

/-! ## Standing in a list -/

/-- The tokens of a list are those of the buffers in one state, each once. -/
def Stands (l : List Token) (st : BufferState) (bs : Vector Buffer 48) : Prop :=
  ∀ t, l.count t = if (look bs t).state = st then 1 else 0

namespace Stands
variable {l l' : List Token} {st : BufferState} {bs : Vector Buffer 48} {b t : Token} {x : Buffer}

theorem mem_iff (h : Stands l st bs) : t ∈ l ↔ (look bs t).state = st := by
  rw [← List.count_pos_iff, h t]
  split <;> simp_all

theorem perm (h : Stands l st bs) (hp : l'.Perm l) : Stands l' st bs := fun t => by rw [hp.count_eq, h t]

/-- A buffer that is in this state after as before keeps its place. -/
theorem stay (h : Stands l st bs) (hx : x.state = st ↔ (look bs b).state = st) : Stands l st (put bs b x) := by
  intro t
  rw [h t, look_put]
  by_cases heq : b = t
  · subst heq
    simp only [hx, if_true]
  · rw [if_neg heq]

/-- A buffer that enters the state joins the list. -/
theorem enter (h : Stands l st bs) (hbefore : (look bs b).state ≠ st) (hx : x.state = st) (hp : l'.Perm (b :: l)) :
    Stands l' st (put bs b x) := by
  intro t
  have ht := h t
  rw [hp.count_eq, look_put, List.count_cons]
  by_cases heq : b = t
  · subst heq
    simp_all
  · simp [heq, ht]

/-- A buffer that leaves the state leaves the list. -/
theorem leave (h : Stands l st bs) (hx : x.state ≠ st) (hp : l.Perm (b :: l')) : Stands l' st (put bs b x) := by
  intro t
  have ht := h t
  rw [hp.count_eq, List.count_cons] at ht
  rw [look_put]
  by_cases heq : b = t
  · subst heq
    have hle : (if (look bs b).state = st then 1 else 0) ≤ 1 := by split <;> omega
    simp only [beq_self_eq_true, if_true] at ht
    rw [if_pos rfl, if_neg hx]
    omega
  · rw [if_neg heq]
    simpa [heq] using ht

end Stands

/-! ## Retainers and slots -/

/-- Retainers and slots agree; the tokens of `k` may have a retainer while an operation holds them (R31, R36, R125,
R127, R130). -/
structure Tied (k : List Token) (bs : Vector Buffer 48) (dr : Drives) : Prop where
  retainer : ∀ t d, (look bs t).retainer = some d ↔ (dr.get d).retained = some t
  places : ∀ t, (look bs t).retainer ≠ none →
    (look bs t).state = .queued ∨ (look bs t).state = .sending ∨ (look bs t).state = .retained ∨ t ∈ k
  retained : ∀ t, (look bs t).state = .retained → (look bs t).retainer ≠ none
  awaiting : ∀ d, (dr.get d).retained ≠ none ↔ (dr.get d).state = .awaiting
  timer : ∀ d, (dr.get d).timer ≠ none → ∃ t, (dr.get d).retained = some t ∧ (look bs t).state = .retained

namespace Tied
variable {k k' : List Token} {bs : Vector Buffer 48} {dr : Drives} {b : Token} {x : Buffer} {d : Drive}
  {y : DriveSlot}

/-- A buffer with no retainer is in no slot. -/
theorem notRetained (h : Tied k bs dr) (hb : (look bs b).retainer = none) (d : Drive) : (dr.get d).retained ≠ some b :=
  fun hd => by simp [(h.retainer b d).2 hd] at hb

/-- A buffer changes its state with its retainer kept: not from RETAINED with a running timer, and not to RETAINED. -/
theorem move (h : Tied k bs dr) (hret : x.retainer = (look bs b).retainer)
    (hbefore : (look bs b).state ≠ .retained ∨ ∀ d, (dr.get d).retained = some b → (dr.get d).timer = none)
    (hafter : x.state ≠ .retained) (hplace : x.retainer ≠ none → x.state = .queued ∨ x.state = .sending ∨ b ∈ k')
    (hk : ∀ t ∈ k, t = b ∨ t ∈ k') : Tied k' (put bs b x) dr := by
  refine ⟨fun t d => ?_, fun t => ?_, fun t => ?_, h.awaiting, fun d hd => ?_⟩
  · rw [← h.retainer t d, look_put]
    split
    next heq => rw [hret, heq]
    next => rfl
  · rw [look_put]
    split
    next heq =>
      subst heq
      exact fun hx => (hplace hx).imp_right (Or.imp_right .inr)
    next hne =>
      refine fun ht => (h.places t ht).imp_right (Or.imp_right (Or.imp_right fun hin => ?_))
      exact (hk t hin).resolve_left (Ne.symm hne)
  · rw [look_put]
    split
    · exact fun hx => absurd hx hafter
    · exact h.retained t
  · obtain ⟨t, ht, hstate⟩ := h.timer d hd
    refine ⟨t, ht, ?_⟩
    rw [look_put_other]
    · exact hstate
    · rintro rfl
      exact hbefore.elim (fun hne => hne hstate) fun hnone => hd (hnone d ht)

/-- A buffer with no retainer changes its state, not to RETAINED. -/
theorem moveFree (h : Tied k bs dr) (hold : (look bs b).retainer = none) (hx : x.retainer = none)
    (hafter : x.state ≠ .retained) (hk : ∀ t ∈ k, t = b ∨ t ∈ k') : Tied k' (put bs b x) dr :=
  h.move (hx.trans hold.symm) (.inl fun hs => h.retained b hs hold) hafter (fun hne => absurd hx hne) hk

/-- A slot replaced by one with the same buffer, state and timer. -/
theorem setSlot (h : Tied k bs dr) (hret : y.retained = (dr.get d).retained) (hstate : y.state = (dr.get d).state)
    (htimer : y.timer = (dr.get d).timer ∨ y.timer = none) : Tied k bs (dr.set d y) := by
  have hslot (e : Drive) : ((dr.set d y).get e).retained = (dr.get e).retained
      ∧ ((dr.set d y).get e).state = (dr.get e).state
      ∧ (((dr.set d y).get e).timer ≠ none → (dr.get e).timer ≠ none) := by
    rw [drives_get_set]
    split
    next heq =>
      subst heq
      exact ⟨hret, hstate, fun hy => htimer.elim (fun ht => ht ▸ hy) fun ht => absurd ht hy⟩
    next => exact ⟨rfl, rfl, id⟩
  refine ⟨fun t e => ?_, h.places, h.retained, fun e => ?_, fun e he => ?_⟩
  · rw [(hslot e).1]
    exact h.retainer t e
  · rw [(hslot e).1, (hslot e).2.1]
    exact h.awaiting e
  · rw [(hslot e).1]
    exact h.timer e ((hslot e).2.2 he)

/-- A buffer in a queue or in transmission becomes RETAINED, and its slot starts the ack timer (R43, R45, R130). -/
theorem tell (h : Tied k bs dr) (hret : (look bs b).retainer = some d) (hx : x.retainer = some d)
    (hstate : x.state = .retained) (hy : y = { dr.get d with timer := y.timer }) :
    Tied k (put bs b x) (dr.set d y) := by
  have hslot (e : Drive) : ((dr.set d y).get e).retained = (dr.get e).retained
      ∧ ((dr.set d y).get e).state = (dr.get e).state := by
    rw [drives_get_set]
    split
    next heq =>
      subst heq
      rw [hy]
      exact ⟨rfl, rfl⟩
    next => exact ⟨rfl, rfl⟩
  have hd := (h.retainer b d).1 hret
  refine ⟨fun t e => ?_, fun t => ?_, fun t => ?_, fun e => ?_, fun e he => ?_⟩
  · rw [(hslot e).1, ← h.retainer t e, look_put]
    split
    next heq => rw [hx, ← heq, hret]
    next => rfl
  · rw [look_put]
    split
    · exact fun _ => .inr (.inr (.inl hstate))
    · exact h.places t
  · rw [look_put]
    split
    · exact fun _ => by simp [hx]
    · exact h.retained t
  · rw [(hslot e).1, (hslot e).2]
    exact h.awaiting e
  · rw [(hslot e).1]
    by_cases hde : d = e
    · subst hde
      exact ⟨b, hd, by rw [look_put_same]; exact hstate⟩
    · rw [drives_get_set, if_neg hde] at he
      obtain ⟨t, ht, hts⟩ := h.timer e he
      refine ⟨t, ht, ?_⟩
      rw [look_put_other _ _ _ _ ?_]
      · exact hts
      · rintro rfl
        have := (h.retainer b e).2 ht
        rw [hret] at this
        exact hde (Option.some.inj this)

/-- A slot without a buffer, outside AWAITING, gets another state outside AWAITING. -/
theorem setEmptySlot (h : Tied k bs dr) (hd : (dr.get d).retained = none) (hret : y.retained = none)
    (hstate : y.state ≠ .awaiting) (htimer : y.timer = none) : Tied k bs (dr.set d y) := by
  refine ⟨fun t e => ?_, h.places, h.retained, fun e => ?_, fun e he => ?_⟩
  · rw [drives_get_set]
    split
    next heq =>
      subst heq
      rw [h.retainer t d, hd, hret]
    next => exact h.retainer t e
  · rw [drives_get_set]
    split
    · simp [hret, hstate]
    · exact h.awaiting e
  · rw [drives_get_set] at he ⊢
    split at he
    · exact absurd htimer he
    next hne =>
      rw [if_neg hne]
      exact h.timer e he

/-- A slot lets its buffer go: the buffer has no retainer, is not RETAINED, and the slot holds nothing (R36). -/
theorem letGo (h : Tied k bs dr) (hd : (dr.get d).retained = some b) (hx : x.retainer = none)
    (hafter : x.state ≠ .retained) (hret : y.retained = none) (hstate : y.state ≠ .awaiting) (htimer : y.timer = none) :
    Tied k (put bs b x) (dr.set d y) := by
  have hb := (h.retainer b d).2 hd
  refine ⟨fun t e => ?_, fun t => ?_, fun t => ?_, fun e => ?_, fun e he => ?_⟩
  · rw [drives_get_set, look_put]
    by_cases hbt : b = t
    · subst hbt
      rw [if_pos rfl, hx]
      split
      · simp [hret]
      next hne =>
        refine ⟨fun h0 => (nomatch h0), fun he => ?_⟩
        have := (h.retainer b e).2 he
        rw [hb] at this
        exact absurd (Option.some.inj this) hne
    · rw [if_neg hbt]
      split
      next heq =>
        subst heq
        refine ⟨fun ht => ?_, fun ht => by simp [hret] at ht⟩
        have := (h.retainer t d).1 ht
        rw [hd] at this
        exact absurd (Option.some.inj this) hbt
      next => exact h.retainer t e
  · rw [look_put]
    split
    · exact fun hne => absurd hx hne
    · exact h.places t
  · rw [look_put]
    split
    · exact fun hr => absurd hr hafter
    · exact h.retained t
  · rw [drives_get_set]
    split
    · simp [hret, hstate]
    · exact h.awaiting e
  · rw [drives_get_set] at he ⊢
    split at he
    · exact absurd htimer he
    next hne =>
      rw [if_neg hne]
      obtain ⟨t, ht, hts⟩ := h.timer e he
      refine ⟨t, ht, ?_⟩
      rw [look_put_other]
      · exact hts
      · rintro rfl
        have := (h.retainer b e).2 ht
        rw [hb] at this
        exact hne (Option.some.inj this)

/-- An empty slot takes a buffer that an operation holds (R127). -/
theorem take (h : Tied k bs dr) (hd : (dr.get d).retained = none) (hb : (look bs b).retainer = none)
    (hx : x.retainer = some d) (hret : y.retained = some b)
    (hy : y.state = .awaiting) (htimer : y.timer = none) : Tied (b :: k) (put bs b x) (dr.set d y) := by
  have hnot (st : (look bs b).state = .retained) : False := h.retained b st hb
  refine ⟨fun t e => ?_, fun t => ?_, fun t => ?_, fun e => ?_, fun e he => ?_⟩
  · rw [drives_get_set, look_put]
    by_cases hbt : b = t
    · subst hbt
      rw [if_pos rfl, hx]
      split
      next heq => simp [heq, hret]
      next hne =>
        refine ⟨fun h0 => absurd (Option.some.inj h0) hne, fun he => ?_⟩
        exact absurd he (h.notRetained hb e)
    · rw [if_neg hbt]
      split
      next heq =>
        subst heq
        refine ⟨fun ht => ?_, fun ht => ?_⟩
        · rw [(h.retainer t d).1 ht] at hd
          cases hd
        · rw [hret] at ht
          exact absurd (Option.some.inj ht) hbt
      next => exact h.retainer t e
  · rw [look_put]
    split
    next heq => exact fun _ => .inr (.inr (.inr (heq ▸ List.mem_cons_self)))
    next => exact fun ht => (h.places t ht).imp_right (Or.imp_right (Or.imp_right (List.mem_cons_of_mem _)))
  · rw [look_put]
    split
    · exact fun _ => by simp [hx]
    · exact h.retained t
  · rw [drives_get_set]
    split
    · simp [hret, hy]
    · exact h.awaiting e
  · rw [drives_get_set] at he ⊢
    split at he
    · exact absurd htimer he
    next hne =>
      rw [if_neg hne]
      obtain ⟨t, ht, hts⟩ := h.timer e he
      refine ⟨t, ht, ?_⟩
      rw [look_put_other]
      · exact hts
      · rintro rfl
        exact hnot hts

end Tied

end Sys2Proof.Machine
end

section
/-! PROOF. The operations on the ledger of the pool: claims, releases, queueing, picking and transmission (R31 to R45,
R171). -/

namespace Sys2Proof.Machine

/-! ## The ledger -/

/-- The tokens in the queues of two transmitters. -/
def queuedIn (tx : Ports Transmitter) : List Token :=
  tx.cockpit.priority ++ tx.cockpit.transit ++ tx.chassis.priority ++ tx.chassis.transit

/-- The frame that a port sends; none at port `x`, where it has been sent and is about to be put away. -/
def inTransmission (x : Option Port) (tx : Ports Transmitter) (p : Port) : Option Token :=
  if x = some p then none else (tx.get p).sending

/-- The tokens in transmission, but for the frame that port `x` has sent. -/
def sendingIn (x : Option Port) (tx : Ports Transmitter) : List Token :=
  (inTransmission x tx .cockpit).toList ++ (inTransmission x tx .chassis).toList

/-- What `PoolAccounted`, `RetainersAgree` and `StatusFrameTraced` become between the parts of an effect: `rs` are the
buffers that receivers fill, `hs` those that the agent or an operation holds, `k` those of `hs` that may have a
retainer, `x` the port whose frame has been sent and not yet put away. -/
structure Ledger (x : Option Port) (k rs hs : List Token) (bs : Vector Buffer 48) (tx : Ports Transmitter)
    (dr : Drives) (hand : Option Token) : Prop where
  receiving : Stands rs .receiving bs
  held : Stands hs .held bs
  queued : Stands (queuedIn tx) .queued bs
  sending : Stands (sendingIn x tx) .sending bs
  tied : Tied k bs dr
  limbo : ∀ t ∈ k, t ∈ hs
  stale : ∀ p, x = some p → (tx.get p).sending ≠ none
  traced : ∀ t, hand = some t → (t ∈ tx.cockpit.priority ∨ inTransmission x tx .cockpit = some t)
    ∧ (look bs t).retainer = none

/-- The ledger of a state. -/
def PoolSound (x : Option Port) (k rs hs : List Token) (s : State) : Prop :=
  Ledger x k rs hs s.pool.buffers s.tx s.drives s.monitor.statusInHand

/-- What the statements keep of the pool is its ledger with nothing under way. -/
theorem poolSound_iff (s : State) :
    PoolSound none [] (receivingTokens s) (heldTokens s) s ↔ PoolAccounted s ∧ RetainersAgree s ∧ StatusFrameTraced s := by
  have hsending : sendingIn none s.tx = sendingTokens s := rfl
  constructor
  · rintro ⟨hr, hh, hq, hs, ⟨hret, hplaces, hretained, hawait, htimer⟩, -, -, htraced⟩
    exact ⟨fun t => ⟨hr t, hh t, hq t, hs t⟩,
      ⟨hret, fun t ht => by simpa [buffer] using hplaces t ht, hretained, hawait, htimer⟩, htraced⟩
  · rintro ⟨hpool, ⟨hret, hplaces, hretained, hawait, htimer⟩, htraced⟩
    exact ⟨fun t => (hpool t).1, fun t => (hpool t).2.1, fun t => (hpool t).2.2.1, fun t => (hpool t).2.2.2,
      ⟨hret, fun t ht => by simpa [buffer] using hplaces t ht, hretained, hawait, htimer⟩,
      fun _ h => absurd h List.not_mem_nil, (fun _ h => nomatch h), htraced⟩

namespace Ledger
variable {x : Option Port} {k rs hs : List Token} {bs : Vector Buffer 48} {tx : Ports Transmitter} {dr : Drives}
  {hand : Option Token} {b : Token} {y : Buffer}

theorem mem_sendingIn {t : Token} (p : Port) (h : inTransmission x tx p = some t) : t ∈ sendingIn x tx := by
  cases p <;> simp [sendingIn, h]

/-- The status frame in hand is QUEUED or SENDING (R171). -/
theorem hand_state (h : Ledger x k rs hs bs tx dr hand) {t : Token} (ht : hand = some t) :
    (look bs t).state = .queued ∨ (look bs t).state = .sending := by
  obtain ⟨hin | hin, -⟩ := h.traced t ht
  · exact .inl (h.queued.mem_iff.1 (by simp [queuedIn, hin]))
  · exact .inr (h.sending.mem_iff.1 (mem_sendingIn .cockpit hin))

theorem held_state (h : Ledger x k rs hs bs tx dr hand) (hb : b ∈ hs) : (look bs b).state = .held :=
  h.held.mem_iff.1 hb

/-- A held buffer that is not among `k` has no retainer. -/
theorem held_retainer (h : Ledger x k rs hs bs tx dr hand) (hb : b ∈ hs) (hk : b ∉ k) : (look bs b).retainer = none := by
  refine Classical.byContradiction fun hne => ?_
  rcases h.tied.places b hne with hs | hs | hs | hs
  · simp [h.held_state hb] at hs
  · simp [h.held_state hb] at hs
  · simp [h.held_state hb] at hs
  · exact hk hs

/-- A FREE or RECEIVING buffer has no retainer. -/
theorem idle_retainer (h : Ledger x k rs hs bs tx dr hand)
    (hb : (look bs b).state = .free ∨ (look bs b).state = .receiving) : (look bs b).retainer = none := by
  refine Classical.byContradiction fun hne => ?_
  rcases h.tied.places b hne with hs | hs | hs | hs
  · simp [hs] at hb
  · simp [hs] at hb
  · simp [hs] at hb
  · simp [h.held_state (h.limbo b hs)] at hb

/-- The trace of the status frame does not see a change of another buffer. -/
theorem traced_put (h : Ledger x k rs hs bs tx dr hand) (hb : y.retainer = none ∨ hand ≠ some b) :
    ∀ t, hand = some t → (t ∈ tx.cockpit.priority ∨ inTransmission x tx .cockpit = some t)
      ∧ (look (put bs b y) t).retainer = none := by
  intro t ht
  obtain ⟨hin, hret⟩ := h.traced t ht
  refine ⟨hin, ?_⟩
  rw [look_put]
  split
  next heq =>
    subst heq
    exact hb.resolve_right (not_not_intro ht)
  next => exact hret

/-- Other bytes, times or ports of a buffer are not in the ledger. -/
theorem contents (h : Ledger x k rs hs bs tx dr hand) (hstate : y.state = (look bs b).state)
    (hret : y.retainer = (look bs b).retainer) : Ledger x k rs hs (put bs b y) tx dr hand := by
  have hsame (t : Token) : (look (put bs b y) t).state = (look bs t).state
      ∧ (look (put bs b y) t).retainer = (look bs t).retainer := by
    rw [look_put]
    split
    next heq =>
      subst heq
      exact ⟨hstate, hret⟩
    next => exact ⟨rfl, rfl⟩
  have hstands {l : List Token} {st : BufferState} (hl : Stands l st bs) : Stands l st (put bs b y) :=
    hl.stay (by rw [hstate])
  refine ⟨hstands h.receiving, hstands h.held, hstands h.queued, hstands h.sending, ?_, h.limbo, h.stale, fun t ht => ?_⟩
  · refine ⟨fun t d => ?_, fun t => ?_, fun t => ?_, h.tied.awaiting, fun d hd => ?_⟩
    · rw [(hsame t).2]
      exact h.tied.retainer t d
    · rw [(hsame t).1, (hsame t).2]
      exact h.tied.places t
    · rw [(hsame t).1, (hsame t).2]
      exact h.tied.retained t
    · obtain ⟨t, ht, hst⟩ := h.tied.timer d hd
      exact ⟨t, ht, by rw [(hsame t).1, hst]⟩
  · rw [(hsame t).2]
    exact h.traced t ht

/-- A FREE buffer is held by an operation (R33). -/
theorem hold (h : Ledger x k rs hs bs tx dr hand) (hfree : (look bs b).state = .free) (hstate : y.state = .held)
    (hret : y.retainer = none) : Ledger x k rs (b :: hs) (put bs b y) tx dr hand := by
  refine ⟨h.receiving.stay (by simp [hstate, hfree]), h.held.enter (by simp [hfree]) hstate (List.Perm.refl _),
    h.queued.stay (by simp [hstate, hfree]), h.sending.stay (by simp [hstate, hfree]),
    h.tied.moveFree (h.idle_retainer (.inl hfree)) hret (by simp [hstate]) fun _ => .inr,
    fun t ht => List.mem_cons_of_mem _ (h.limbo t ht), h.stale, h.traced_put (.inl hret)⟩

/-- A FREE buffer receives a frame (R32). -/
theorem receive (h : Ledger x k rs hs bs tx dr hand) (hfree : (look bs b).state = .free) (hstate : y.state = .receiving)
    (hret : y.retainer = none) : Ledger x k (b :: rs) hs (put bs b y) tx dr hand := by
  refine ⟨h.receiving.enter (by simp [hfree]) hstate (List.Perm.refl _), h.held.stay (by simp [hstate, hfree]),
    h.queued.stay (by simp [hstate, hfree]), h.sending.stay (by simp [hstate, hfree]),
    h.tied.moveFree (h.idle_retainer (.inl hfree)) hret (by simp [hstate]) fun _ => .inr, h.limbo, h.stale,
    h.traced_put (.inl hret)⟩

/-- A received frame is held by an operation (R26). -/
theorem received {rs' : List Token} (h : Ledger x k rs hs bs tx dr hand) (hp : rs.Perm (b :: rs'))
    (hstate : y.state = .held) (hret : y.retainer = (look bs b).retainer) :
    Ledger x k rs' (b :: hs) (put bs b y) tx dr hand := by
  have hb : (look bs b).state = .receiving := h.receiving.mem_iff.1 (hp.symm.subset List.mem_cons_self)
  have hnone := h.idle_retainer (.inr hb)
  refine ⟨h.receiving.leave (by simp [hstate]) hp, h.held.enter (by simp [hb]) hstate (List.Perm.refl _),
    h.queued.stay (by simp [hstate, hb]), h.sending.stay (by simp [hstate, hb]),
    h.tied.moveFree hnone (hret.trans hnone) (by simp [hstate]) fun _ => .inr,
    fun t ht => List.mem_cons_of_mem _ (h.limbo t ht), h.stale, h.traced_put (.inl (hret.trans hnone))⟩

/-- A received frame is released (R26, R27). -/
theorem releaseReceived {rs' : List Token} (h : Ledger x k rs hs bs tx dr hand) (hp : rs.Perm (b :: rs')) :
    Ledger x k rs' hs (put bs b Buffer.empty) tx dr hand := by
  have hb : (look bs b).state = .receiving := h.receiving.mem_iff.1 (hp.symm.subset List.mem_cons_self)
  refine ⟨h.receiving.leave (by simp [Buffer.empty]) hp, h.held.stay (by simp [Buffer.empty, hb]),
    h.queued.stay (by simp [Buffer.empty, hb]), h.sending.stay (by simp [Buffer.empty, hb]),
    h.tied.moveFree (h.idle_retainer (.inr hb)) rfl (by simp [Buffer.empty]) fun _ => .inr, h.limbo, h.stale,
    h.traced_put (.inl rfl)⟩

/-- A held buffer is released (R35). -/
theorem releaseHeld {hs' : List Token} (h : Ledger x [] rs hs bs tx dr hand) (hp : hs.Perm (b :: hs')) :
    Ledger x [] rs hs' (put bs b Buffer.empty) tx dr hand := by
  have hin : b ∈ hs := hp.symm.subset List.mem_cons_self
  have hb := h.held_state hin
  refine ⟨h.receiving.stay (by simp [Buffer.empty, hb]), h.held.leave (by simp [Buffer.empty]) hp,
    h.queued.stay (by simp [Buffer.empty, hb]), h.sending.stay (by simp [Buffer.empty, hb]),
    h.tied.moveFree (h.held_retainer hin List.not_mem_nil) rfl (by simp [Buffer.empty]) fun _ => .inr,
    fun _ ht => absurd ht List.not_mem_nil, h.stale, h.traced_put (.inl rfl)⟩

/-! ## Queues -/

theorem queuedIn_perm_set (tx : Ports Transmitter) (p : Port) (z : Transmitter) (l : List Token)
    (h : (z.priority ++ z.transit).Perm (l ++ ((tx.get p).priority ++ (tx.get p).transit))) :
    (queuedIn (tx.set p z)).Perm (l ++ queuedIn tx) := by
  rw [List.perm_iff_count] at h ⊢
  intro t
  have ht := h t
  cases p <;> simp only [queuedIn, Ports.set, Ports.get, List.count_append] at ht ⊢ <;> omega

theorem inTransmission_set (x : Option Port) (tx : Ports Transmitter) (p q : Port) (z : Transmitter)
    (h : z.sending = (tx.get p).sending) : inTransmission x (tx.set p z) q = inTransmission x tx q := by
  simp only [inTransmission, ports_get_set]
  split
  · rfl
  · split
    next heq =>
      subst heq
      exact h
    next => rfl

theorem sendingIn_set (x : Option Port) (tx : Ports Transmitter) (p : Port) (z : Transmitter)
    (h : z.sending = (tx.get p).sending) : sendingIn x (tx.set p z) = sendingIn x tx := by
  simp only [sendingIn, inTransmission_set x tx p _ z h]

/-- The transmitter's counters and run count are not in the ledger. -/
theorem setTx {p : Port} {z : Transmitter} (h : Ledger x k rs hs bs tx dr hand)
    (hprio : z.priority = (tx.get p).priority) (htransit : z.transit = (tx.get p).transit)
    (hsending : z.sending = (tx.get p).sending) : Ledger x k rs hs bs (tx.set p z) dr hand := by
  refine ⟨h.receiving, h.held, h.queued.perm ?_, ?_, h.tied, h.limbo, fun q hq => ?_, fun t ht => ?_⟩
  · exact queuedIn_perm_set tx p z [] (by rw [hprio, htransit]; exact List.Perm.refl _)
  · rw [sendingIn_set x tx p z hsending]
    exact h.sending
  · rw [ports_get_set]
    split
    next heq => exact hsending ▸ h.stale p (heq ▸ hq)
    next => exact h.stale q hq
  · obtain ⟨hin, hret⟩ := h.traced t ht
    refine ⟨?_, hret⟩
    rw [inTransmission_set x tx p _ z hsending]
    cases p with
    | cockpit => exact hin.imp_left fun hmem => by rw [Ports.set, hprio]; exact hmem
    | chassis => exact hin

theorem appendTo_transmitter (p : Port) (q : Queue) (s : State) : ∃ z : Transmitter,
    (appendTo p q b s).tx = s.tx.set p z ∧ z.sending = (s.tx.get p).sending
      ∧ (z.priority ++ z.transit).Perm ([b] ++ ((s.tx.get p).priority ++ (s.tx.get p).transit))
      ∧ ∀ t, t ∈ (s.tx.get p).priority → t ∈ z.priority := by
  cases q with
  | priority =>
    refine ⟨_, rfl, rfl, ?_, fun t ht => List.mem_append_left _ ht⟩
    rw [List.append_assoc]
    exact List.perm_append_comm_assoc ..
  | transit =>
    refine ⟨_, rfl, rfl, ?_, fun t ht => ht⟩
    rw [← List.append_assoc]
    exact List.perm_append_comm

/-- A buffer joins the tail of a queue (R38). -/
theorem join {hs' k' : List Token} {p : Port} {z : Transmitter} (h : Ledger x k rs hs bs tx dr hand)
    (hsending : z.sending = (tx.get p).sending)
    (hqueue : (z.priority ++ z.transit).Perm ([b] ++ ((tx.get p).priority ++ (tx.get p).transit)))
    (hprio : ∀ t, t ∈ (tx.get p).priority → t ∈ z.priority) (hstate : y.state = .queued)
    (hret : y.retainer = (look bs b).retainer)
    (hfrom : hs.Perm (b :: hs') ∨ hs' = hs ∧ (look bs b).state = .retained
      ∧ ∀ d, (dr.get d).retained = some b → (dr.get d).timer = none)
    (hk : ∀ t ∈ k, t = b ∨ t ∈ k') (hk' : ∀ t ∈ k', t ∈ hs') :
    Ledger x k' rs hs' (put bs b y) (tx.set p z) dr hand := by
  have hbefore : (look bs b).state = .held ∨ (look bs b).state = .retained :=
    hfrom.imp (fun hp => h.held_state (hp.symm.subset List.mem_cons_self)) fun hr => hr.2.1
  have hne (st : BufferState) (h1 : st ≠ .held) (h2 : st ≠ .retained) : (look bs b).state ≠ st :=
    fun hst => hbefore.elim (fun hb => h1 (hst.symm.trans hb)) fun hb => h2 (hst.symm.trans hb)
  refine ⟨h.receiving.stay ?_, ?_, h.queued.enter (hne _ (by simp) (by simp)) hstate
    (queuedIn_perm_set tx p z [b] hqueue), ?_, ?_, hk', fun q hq => ?_, fun t ht => ?_⟩
  · simp [hstate, hne .receiving]
  · rcases hfrom with hp | ⟨rfl, hr, -⟩
    · exact h.held.leave (by simp [hstate]) hp
    · exact h.held.stay (by simp [hstate, hr])
  · rw [sendingIn_set x tx p z hsending]
    exact h.sending.stay (by simp [hstate, hne .sending])
  · refine h.tied.move hret (hfrom.imp (fun hp => ?_) fun hr => hr.2.2) (by simp [hstate]) (fun _ => .inl hstate) hk
    rw [h.held_state (hp.symm.subset List.mem_cons_self)]
    simp
  · rw [ports_get_set]
    split
    next heq => exact hsending ▸ h.stale p (heq ▸ hq)
    next => exact h.stale q hq
  · have hbt : b ≠ t := by
      rintro rfl
      rcases h.hand_state ht with hs | hs
      · exact hne .queued (by simp) (by simp) hs
      · exact hne .sending (by simp) (by simp) hs
    obtain ⟨hin, hret'⟩ := h.traced t ht
    rw [inTransmission_set x tx p _ z hsending, look_put_other _ _ _ _ hbt]
    refine ⟨hin.imp_left fun hmem => ?_, hret'⟩
    cases p with
    | cockpit => exact hprio t hmem
    | chassis => exact hmem

/-- The head of a queue goes into transmission at an idle port (R42, R44). -/
theorem begin {p : Port} {z : Transmitter} (h : Ledger x k rs hs bs tx dr hand) (hidle : (tx.get p).sending = none)
    (hsending : z.sending = some b)
    (hqueue : ((tx.get p).priority ++ (tx.get p).transit).Perm ([b] ++ (z.priority ++ z.transit)))
    (hprio : ∀ t, t ∈ (tx.get p).priority → t = b ∨ t ∈ z.priority) (hstate : y.state = .sending)
    (hret : y.retainer = (look bs b).retainer) : Ledger x k rs hs (put bs b y) (tx.set p z) dr hand := by
  have hx : x ≠ some p := fun hx => h.stale p hx hidle
  have hb : (look bs b).state = .queued := by
    refine h.queued.mem_iff.1 ?_
    have hmem : b ∈ (tx.get p).priority ++ (tx.get p).transit := hqueue.symm.subset List.mem_cons_self
    cases p with
    | cockpit => exact List.mem_append_left _ (List.mem_append_left _ hmem)
    | chassis =>
      rw [queuedIn, List.append_assoc]
      exact List.mem_append_right _ hmem
  have hold : inTransmission x tx p = none := by rw [inTransmission, if_neg hx, hidle]
  have hnew : inTransmission x (tx.set p z) p = some b := by
    rw [inTransmission, if_neg hx, ports_get_set_same, hsending]
  have hother (q : Port) (hq : p ≠ q) : inTransmission x (tx.set p z) q = inTransmission x tx q := by
    simp only [inTransmission, ports_get_set, if_neg hq]
  refine ⟨h.receiving.stay (by simp [hstate, hb]), h.held.stay (by simp [hstate, hb]),
    h.queued.leave (by simp [hstate]) ?_, h.sending.enter (by simp [hb]) hstate ?_,
    h.tied.move hret (.inl (by simp [hb])) (by simp [hstate]) (fun _ => .inr (.inl hstate)) fun _ => .inr, h.limbo,
    fun q hq => ?_, fun t ht => ?_⟩
  · have hback : tx = (tx.set p z).set p (tx.get p) := by simp
    have hperm := queuedIn_perm_set (tx.set p z) p (tx.get p) [b] (by simpa using hqueue)
    rwa [← hback] at hperm
  · cases p with
    | cockpit =>
      rw [sendingIn, sendingIn, hnew, hold, hother .chassis (by simp)]
      exact List.Perm.refl _
    | chassis =>
      rw [sendingIn, sendingIn, hnew, hold, hother .cockpit (by simp)]
      simp only [Option.toList_some, Option.toList_none, List.append_nil]
      exact List.perm_append_comm
  · rw [ports_get_set]
    split
    next heq => exact absurd (heq ▸ hq) hx
    next => exact h.stale q hq
  · obtain ⟨hin, hret'⟩ := h.traced t ht
    constructor
    · cases p with
      | cockpit =>
        rw [hnew]
        have hmem := hin.resolve_right (by simp [hold])
        exact (hprio t hmem).symm.imp id fun heq => by rw [heq]
      | chassis =>
        rw [hother .cockpit (by simp)]
        exact hin
    · rw [look_put]
      split
      next heq => rw [hret, heq, hret']
      next => exact hret'

/-- A head with no retainer is taken off TRANSIT and released (R41, R43). -/
theorem ageRelease {p : Port} {z : Transmitter} (h : Ledger x k rs hs bs tx dr hand)
    (hsending : z.sending = (tx.get p).sending) (hprio : z.priority = (tx.get p).priority)
    (htransit : (tx.get p).transit = b :: z.transit) (hret : (look bs b).retainer = none) :
    Ledger x k rs hs (put bs b Buffer.empty) (tx.set p z) dr hand := by
  have hqueue : (queuedIn tx).Perm (b :: queuedIn (tx.set p z)) := by
    have hback : tx = (tx.set p z).set p (tx.get p) := by simp
    have hperm := queuedIn_perm_set (tx.set p z) p (tx.get p) [b] (by
      rw [ports_get_set_same, htransit, hprio]
      exact List.perm_middle)
    rwa [← hback] at hperm
  have hb : (look bs b).state = .queued := h.queued.mem_iff.1 (hqueue.symm.subset List.mem_cons_self)
  refine ⟨h.receiving.stay (by simp [Buffer.empty, hb]), h.held.stay (by simp [Buffer.empty, hb]),
    h.queued.leave (by simp [Buffer.empty]) hqueue, ?_,
    h.tied.moveFree hret rfl (by simp [Buffer.empty]) fun _ => .inr, h.limbo, fun q hq => ?_, fun t ht => ?_⟩
  · rw [sendingIn_set x tx p z hsending]
    exact h.sending.stay (by simp [Buffer.empty, hb])
  · rw [ports_get_set]
    split
    next heq => exact hsending ▸ h.stale p (heq ▸ hq)
    next => exact h.stale q hq
  · obtain ⟨hin, hret'⟩ := h.traced_put (y := Buffer.empty) (b := b) (.inl rfl) t ht
    refine ⟨?_, hret'⟩
    rw [inTransmission_set x tx p _ z hsending]
    cases p with
    | cockpit => exact hin.imp_left fun hmem => by rw [Ports.set, hprio]; exact hmem
    | chassis => exact hin

/-- A head with a retainer is taken off TRANSIT, becomes RETAINED, and its slot is told (R41, R43, R130). -/
theorem ageRetain {p : Port} {z : Transmitter} {d : Drive} {w : DriveSlot} (h : Ledger x k rs hs bs tx dr hand)
    (hsending : z.sending = (tx.get p).sending) (hprio : z.priority = (tx.get p).priority)
    (htransit : (tx.get p).transit = b :: z.transit) (hret : (look bs b).retainer = some d)
    (hy : y.retainer = some d) (hstate : y.state = .retained) (hw : w = { dr.get d with timer := w.timer }) :
    Ledger x k rs hs (put bs b y) (tx.set p z) (dr.set d w) hand := by
  have hqueue : (queuedIn tx).Perm (b :: queuedIn (tx.set p z)) := by
    have hback : tx = (tx.set p z).set p (tx.get p) := by simp
    have hperm := queuedIn_perm_set (tx.set p z) p (tx.get p) [b] (by
      rw [ports_get_set_same, htransit, hprio]
      exact List.perm_middle)
    rwa [← hback] at hperm
  have hb : (look bs b).state = .queued := h.queued.mem_iff.1 (hqueue.symm.subset List.mem_cons_self)
  have hhand : hand ≠ some b := fun hh => by simp [(h.traced b hh).2] at hret
  refine ⟨h.receiving.stay (by simp [hstate, hb]), h.held.stay (by simp [hstate, hb]),
    h.queued.leave (by simp [hstate]) hqueue, ?_, h.tied.tell hret hy hstate hw, h.limbo, fun q hq => ?_,
    fun t ht => ?_⟩
  · rw [sendingIn_set x tx p z hsending]
    exact h.sending.stay (by simp [hstate, hb])
  · rw [ports_get_set]
    split
    next heq => exact hsending ▸ h.stale p (heq ▸ hq)
    next => exact h.stale q hq
  · obtain ⟨hin, hret'⟩ := h.traced_put (y := y) (b := b) (.inr hhand) t ht
    refine ⟨?_, hret'⟩
    rw [inTransmission_set x tx p _ z hsending]
    cases p with
    | cockpit => exact hin.imp_left fun hmem => by rw [Ports.set, hprio]; exact hmem
    | chassis => exact hin

/-! ## A frame sent -/

theorem sendingIn_sent {p : Port} (h : (tx.get p).sending = some b) :
    (sendingIn none tx).Perm (b :: sendingIn (some p) tx) := by
  cases p with
  | cockpit =>
    have hb : tx.cockpit.sending = some b := h
    simp [sendingIn, inTransmission, Ports.get, hb]
  | chassis =>
    have hb : tx.chassis.sending = some b := h
    simp [sendingIn, inTransmission, Ports.get, hb]

/-- The trace of a status frame that is not the one sent. -/
theorem traced_sent {p : Port} (h : Ledger none k rs hs bs tx dr hand) (hb : (tx.get p).sending = some b) {t : Token}
    (ht : (if p = .cockpit ∧ hand = some b then none else hand) = some t) :
    hand = some t ∧ (t ∈ tx.cockpit.priority ∨ inTransmission (some p) tx .cockpit = some t) := by
  split at ht
  next => cases ht
  next hnot =>
    refine ⟨ht, (h.traced t ht).1.imp_right fun hin => ?_⟩
    have hsend : tx.cockpit.sending = some t := hin
    cases p with
    | cockpit =>
      have : tx.cockpit.sending = some b := hb
      exact absurd ⟨rfl, by rw [ht, ← hsend, this]⟩ hnot
    | chassis => exact hsend

/-- A sent frame with no retainer is released; a status frame in hand is in hand no longer (R45). -/
theorem sentRelease {p : Port} (h : Ledger none k rs hs bs tx dr hand) (hb : (tx.get p).sending = some b)
    (hret : (look bs b).retainer = none) :
    Ledger (some p) k rs hs (put bs b Buffer.empty) tx dr (if p = .cockpit ∧ hand = some b then none else hand) := by
  have hperm := sendingIn_sent hb
  have hstate : (look bs b).state = .sending := h.sending.mem_iff.1 (hperm.symm.subset List.mem_cons_self)
  refine ⟨h.receiving.stay (by simp [Buffer.empty, hstate]), h.held.stay (by simp [Buffer.empty, hstate]),
    h.queued.stay (by simp [Buffer.empty, hstate]), h.sending.leave (by simp [Buffer.empty]) hperm,
    h.tied.moveFree hret rfl (by simp [Buffer.empty]) fun _ => .inr, h.limbo, fun q hq => ?_, fun t ht => ?_⟩
  · cases hq
    simp [hb]
  · obtain ⟨hhand, hin⟩ := traced_sent h hb ht
    exact ⟨hin, (h.traced_put (.inl rfl) t hhand).2⟩

/-- A sent frame with a retainer is RETAINED, and its slot is told (R45, R130). -/
theorem sentRetain {p : Port} {d : Drive} {w : DriveSlot} (h : Ledger none k rs hs bs tx dr hand)
    (hb : (tx.get p).sending = some b) (hret : (look bs b).retainer = some d) (hy : y.retainer = some d)
    (hstate : y.state = .retained) (hw : w = { dr.get d with timer := w.timer }) :
    Ledger (some p) k rs hs (put bs b y) tx (dr.set d w) (if p = .cockpit ∧ hand = some b then none else hand) := by
  have hperm := sendingIn_sent hb
  have hbefore : (look bs b).state = .sending := h.sending.mem_iff.1 (hperm.symm.subset List.mem_cons_self)
  have hhand : hand ≠ some b := fun hh => by simp [(h.traced b hh).2] at hret
  refine ⟨h.receiving.stay (by simp [hstate, hbefore]), h.held.stay (by simp [hstate, hbefore]),
    h.queued.stay (by simp [hstate, hbefore]), h.sending.leave (by simp [hstate]) hperm,
    h.tied.tell hret hy hstate hw, h.limbo, fun q hq => ?_, fun t ht => ?_⟩
  · cases hq
    simp [hb]
  · obtain ⟨ht', hin⟩ := traced_sent h hb ht
    exact ⟨hin, (h.traced_put (.inr hhand) t ht').2⟩

/-- The frame sent is put away: its port is idle (R45). -/
theorem idle {p : Port} {z : Transmitter} (h : Ledger (some p) k rs hs bs tx dr hand)
    (hprio : z.priority = (tx.get p).priority) (htransit : z.transit = (tx.get p).transit) (hz : z.sending = none) :
    Ledger none k rs hs bs (tx.set p z) dr hand := by
  have hsame (q : Port) : inTransmission none (tx.set p z) q = inTransmission (some p) tx q := by
    simp only [inTransmission, ports_get_set]
    by_cases hpq : p = q
    · simp [hpq, hz]
    · simp [hpq]
  refine ⟨h.receiving, h.held, h.queued.perm ?_, ?_, h.tied, h.limbo, (fun _ hq => nomatch hq), fun t ht => ?_⟩
  · exact queuedIn_perm_set tx p z [] (by rw [hprio, htransit]; exact List.Perm.refl _)
  · simp only [sendingIn, hsame]
    exact h.sending
  · obtain ⟨hin, hret⟩ := h.traced t ht
    refine ⟨?_, hret⟩
    rw [hsame]
    cases p with
    | cockpit => exact hin.imp_left fun hmem => by rw [Ports.set, hprio]; exact hmem
    | chassis => exact hin

/-! ## Slots -/

theorem setSlot {d : Drive} {w : DriveSlot} (h : Ledger x k rs hs bs tx dr hand)
    (hret : w.retained = (dr.get d).retained) (hstate : w.state = (dr.get d).state)
    (htimer : w.timer = (dr.get d).timer ∨ w.timer = none) : Ledger x k rs hs bs tx (dr.set d w) hand :=
  { h with tied := h.tied.setSlot hret hstate htimer }

theorem setEmptySlot {d : Drive} {w : DriveSlot} (h : Ledger x k rs hs bs tx dr hand)
    (hd : (dr.get d).retained = none) (hret : w.retained = none) (hstate : w.state ≠ .awaiting)
    (htimer : w.timer = none) : Ledger x k rs hs bs tx (dr.set d w) hand :=
  { h with tied := h.tied.setEmptySlot hd hret hstate htimer }

/-- A slot takes a buffer that an operation holds (R127). -/
theorem take {d : Drive} {w : DriveSlot} (h : Ledger x k rs hs bs tx dr hand) (hd : (dr.get d).retained = none)
    (hb : b ∈ hs) (hk : b ∉ k) (hy : y.retainer = some d) (hstate : y.state = .held)
    (hret : w.retained = some b) (hw : w.state = .awaiting) (htimer : w.timer = none) :
    Ledger x (b :: k) rs hs (put bs b y) tx (dr.set d w) hand := by
  have hbs := h.held_state hb
  have hhand : hand ≠ some b := fun hh => by rcases h.hand_state hh with hs | hs <;> simp [hbs] at hs
  refine ⟨h.receiving.stay (by simp [hstate, hbs]), h.held.stay (by simp [hstate, hbs]),
    h.queued.stay (by simp [hstate, hbs]), h.sending.stay (by simp [hstate, hbs]),
    h.tied.take hd (h.held_retainer hb hk) hy hret hw htimer, fun t ht => ?_, h.stale, h.traced_put (.inr hhand)⟩
  rcases List.mem_cons.1 ht with rfl | ht
  · exact hb
  · exact h.limbo t ht

/-- A slot lets its buffer go where it stands (R36). -/
theorem letStand {d : Drive} {w : DriveSlot} (h : Ledger x k rs hs bs tx dr hand)
    (hd : (dr.get d).retained = some b) (hstate : y.state = (look bs b).state) (hb : (look bs b).state ≠ .retained)
    (hy : y.retainer = none) (hret : w.retained = none) (hw : w.state ≠ .awaiting) (htimer : w.timer = none) :
    Ledger x k rs hs (put bs b y) tx (dr.set d w) hand := by
  have hstands {l : List Token} {st : BufferState} (hl : Stands l st bs) : Stands l st (put bs b y) :=
    hl.stay (by rw [hstate])
  exact ⟨hstands h.receiving, hstands h.held, hstands h.queued, hstands h.sending,
    h.tied.letGo hd hy (hstate ▸ hb) hret hw htimer, h.limbo, h.stale, h.traced_put (.inl hy)⟩

/-- A slot's RETAINED buffer is released (R36). -/
theorem letRelease {d : Drive} {w : DriveSlot} (h : Ledger x k rs hs bs tx dr hand)
    (hd : (dr.get d).retained = some b) (hb : (look bs b).state = .retained) (hret : w.retained = none)
    (hw : w.state ≠ .awaiting) (htimer : w.timer = none) :
    Ledger x k rs hs (put bs b Buffer.empty) tx (dr.set d w) hand :=
  ⟨h.receiving.stay (by simp [Buffer.empty, hb]), h.held.stay (by simp [Buffer.empty, hb]),
    h.queued.stay (by simp [Buffer.empty, hb]), h.sending.stay (by simp [Buffer.empty, hb]),
    h.tied.letGo hd rfl (by simp [Buffer.empty]) hret hw htimer, h.limbo, h.stale, h.traced_put (.inl rfl)⟩

/-- A QUEUED buffer that a slot withdraws is taken out of its queue and released (R39). -/
theorem unqueue {d : Drive} {w : DriveSlot} {tx' : Ports Transmitter} (h : Ledger x k rs hs bs tx dr hand)
    (hd : (dr.get d).retained = some b) (hb : (look bs b).state = .queued)
    (htx : ∀ p, tx'.get p = { tx.get p with
      priority := (tx.get p).priority.filter (· != b), transit := (tx.get p).transit.filter (· != b) })
    (hret : w.retained = none) (hw : w.state ≠ .awaiting) (htimer : w.timer = none) :
    Ledger x k rs hs (put bs b Buffer.empty) tx' (dr.set d w) hand := by
  have hbret := (h.tied.retainer b d).2 hd
  have htransmission (q : Port) : inTransmission x tx' q = inTransmission x tx q := by
    rw [inTransmission, inTransmission, htx]
  have hqueue : queuedIn tx' = (queuedIn tx).filter (· != b) := by
    have hc := htx .cockpit
    have hh := htx .chassis
    simp only [Ports.get] at hc hh
    simp [queuedIn, hc, hh]
  refine ⟨h.receiving.stay (by simp [Buffer.empty, hb]), h.held.stay (by simp [Buffer.empty, hb]),
    h.queued.leave (by simp [Buffer.empty]) ?_, ?_, h.tied.letGo hd rfl (by simp [Buffer.empty]) hret hw htimer, h.limbo,
    fun q hq => ?_, fun t ht => ?_⟩
  · rw [hqueue, List.perm_iff_count]
    intro t
    have hcount := h.queued b
    rw [if_pos hb] at hcount
    rw [List.count_cons]
    by_cases hbt : b = t
    · subst hbt
      have hnone : ((queuedIn tx).filter (· != b)).count b = 0 := by
        rw [List.count_eq_zero]
        simp
      rw [hnone, hcount]
      simp
    · rw [List.count_filter (by simpa using Ne.symm hbt)]
      simp [hbt]
  · simp only [sendingIn, htransmission]
    exact h.sending.stay (by simp [Buffer.empty, hb])
  · rw [htx]
    exact h.stale q hq
  · have hbt : t ≠ b := by
      rintro rfl
      simp [(h.traced t ht).2] at hbret
    obtain ⟨hin, hret'⟩ := h.traced_put (y := Buffer.empty) (b := b) (.inl rfl) t ht
    rw [htransmission]
    refine ⟨hin.imp_left fun hmem => ?_, hret'⟩
    have hc := htx .cockpit
    simp only [Ports.get] at hc
    rw [hc]
    simpa [hbt] using hmem

end Ledger

end Sys2Proof.Machine
end

section
/-! PROOF. What traffic and reports leave of the ledger of the pool (R31 to R45, R130, R171). -/

namespace Sys2Proof.Machine

/-! ## The ledger of a state -/

/-- The ledger of a state with this status frame in hand. -/
def Accounted (x : Option Port) (k rs hs : List Token) (hand : Option Token) (s : State) : Prop :=
  Ledger x k rs hs s.pool.buffers s.tx s.drives hand

section traffic
variable {x : Option Port} {k rs hs hs' : List Token} {hand : Option Token} {s t : State} {b : Token} {p : Port}

theorem Accounted.of_eq (h : Accounted x k rs hs hand s) (hbuffers : t.pool.buffers = s.pool.buffers) (htx : t.tx = s.tx)
    (hdrives : t.drives = s.drives) : Accounted x k rs hs hand t := by
  rw [Accounted, hbuffers, htx, hdrives]
  exact h

theorem PoolSound.of_eq (h : PoolSound x k rs hs s) (hbuffers : t.pool.buffers = s.pool.buffers) (htx : t.tx = s.tx)
    (hdrives : t.drives = s.drives) (hhand : t.monitor.statusInHand = s.monitor.statusInHand) :
    PoolSound x k rs hs t := by
  rw [PoolSound, hhand]
  exact Accounted.of_eq (s := s) h hbuffers htx hdrives

/-- Traffic leaves the status frame in hand as it is (R171). -/
theorem Accounted.poolSound (h : Accounted x k rs hs s.monitor.statusInHand t) (htraffic : TrafficOnly s t) :
    PoolSound x k rs hs t := by
  rw [PoolSound, htraffic.statusInHand]
  exact h

@[simp] theorem releaseBuffer_buffers (b : Token) (s : State) :
    (releaseBuffer b s).pool.buffers = put s.pool.buffers b Buffer.empty := by
  unfold releaseBuffer noticeRelease
  split <;> rfl

theorem releaseBuffer_accounted (h : Accounted x k rs hs hand (putBuffer b Buffer.empty s)) :
    Accounted x k rs hs hand (releaseBuffer b s) :=
  h.of_eq (by simp [putBuffer]) (by simp) (by simp)

theorem setBytes_accounted (bs : List Byte) (h : Accounted x k rs hs hand s) :
    Accounted x k rs hs hand (setBytes b bs s) :=
  Ledger.contents h rfl rfl

/-! ## Picks -/

/-- An AWAITING slot that is told of its buffer starts its ack timer (R130). -/
theorem tellSlot_of_awaiting {d : Drive} (hstate : (s.drives.get d).state = .awaiting)
    (hretained : (s.drives.get d).retained = some b) :
    tellSlot d b s = setSlot d { s.drives.get d with timer := some (ackTimeout s) } s :=
  if_pos ⟨hstate, hretained⟩

theorem ageOut_accounted {rest : List Token} (h : Accounted x k rs hs hand s)
    (hq : (s.tx.get p).transit = b :: rest) : Accounted x k rs hs hand (ageOut p b rest s) := by
  cases hret : (buffer b s).retainer with
  | none =>
    simp only [ageOut, hret]
    exact releaseBuffer_accounted (Ledger.ageRelease h rfl rfl hq hret)
  | some d =>
    have hd := (h.tied.retainer b d).1 hret
    have hawait := (h.tied.awaiting d).1 (by simp [hd])
    simp only [ageOut, hret]
    rw [tellSlot_of_awaiting (s := setBufferState b .retained (setTx p _ s)) hawait hd]
    exact Ledger.ageRetain h rfl rfl hq hret hret rfl rfl

theorem ageHeads_accounted {q : List Token} (h : Accounted x k rs hs hand s) (hq : (s.tx.get p).transit = q) :
    Accounted x k rs hs hand (ageHeads p q s) := by
  induction q generalizing s with
  | nil => exact h
  | cons b rest ih =>
    unfold ageHeads
    split
    · exact ih (ageOut_accounted h hq) (by simp)
    · exact h

/-- The head of a queue goes into transmission at an idle port (R42, R44). -/
theorem beginTransmission_accounted {z : Transmitter} (h : Accounted x k rs hs hand s)
    (hidle : (s.tx.get p).sending = none)
    (hqueue : ((s.tx.get p).priority ++ (s.tx.get p).transit).Perm ([b] ++ (z.priority ++ z.transit)))
    (hprio : ∀ t, t ∈ (s.tx.get p).priority → t = b ∨ t ∈ z.priority) :
    Accounted x k rs hs hand (beginTransmission p b (setTx p z s)) := by
  have hsent : Accounted x k rs hs hand
      (setTx p { (setTx p z s).tx.get p with sending := some b } (setBufferState b .sending (setTx p z s))) := by
    have := Ledger.begin (z := { z with sending := some b }) (y := { buffer b s with state := .sending }) h hidle rfl
      hqueue hprio rfl rfl
    rw [← ports_set_set s.tx p z] at this
    rw [setTx_tx, ports_get_set_same]
    exact this
  unfold beginTransmission
  dsimp only
  split
  · exact setBytes_accounted _ hsent
  · exact hsent

theorem choose_accounted (h : Accounted x k rs hs hand s) (hidle : (s.tx.get p).sending = none) :
    Accounted x k rs hs hand (choose p s) := by
  have hpriority {t : Token} {rest : List Token} (hp : (s.tx.get p).priority = t :: rest) :
      Accounted x k rs hs hand (beginTransmission p t
        (setTx p { s.tx.get p with priority := rest, runCount := bumpByte (s.tx.get p).runCount } s)) :=
    beginTransmission_accounted h hidle (by rw [hp]; exact List.Perm.refl _) (by simp [hp])
  have htransit {t : Token} {rest : List Token} (ht : (s.tx.get p).transit = t :: rest) :
      Accounted x k rs hs hand (beginTransmission p t
        (setTx p { s.tx.get p with transit := rest, runCount := 0 } s)) :=
    beginTransmission_accounted h hidle (by rw [ht]; exact List.perm_middle) fun _ => .inr
  unfold choose
  dsimp only
  split
  · exact h
  next hp _ => exact hpriority hp
  next _ ht => exact htransit ht
  next hp ht =>
    split
    · exact hpriority hp
    · exact htransit ht

theorem pick_accounted (h : Accounted x k rs hs hand s) (hidle : (s.tx.get p).sending = none) :
    Accounted x k rs hs hand (pick p s) :=
  choose_accounted (ageHeads_accounted h rfl) (by rw [ageHeads_tx rfl]; simpa using hidle)

/-! ## Queueing -/

/-- The buffer as it is QUEUED at a port: its egress port is present (R38). -/
def queuedBuffer (p : Port) (x : Buffer) : Buffer := { x with state := .queued, egress := some (x.egress.getD p) }

/-- The state with a buffer at the tail of a queue, before the pick of an idle transmitter (R38). -/
def joined (p : Port) (q : Queue) (b : Token) (s : State) : State :=
  appendTo p q b (putBuffer b (queuedBuffer p (buffer b s)) s)

theorem enqueue_eq (p : Port) (q : Queue) (b : Token) (s : State) :
    enqueue p q b s = if (s.tx.get p).sending = none then pick p (joined p q b s) else joined p q b s := rfl

theorem joined_sending (p : Port) (q : Queue) (b : Token) (s : State) :
    ((joined p q b s).tx.get p).sending = (s.tx.get p).sending := by
  cases q <;> simp [joined, appendTo]

theorem enqueue_of_joined {q : Queue} (h : Accounted x k rs hs hand (joined p q b s)) :
    Accounted x k rs hs hand (enqueue p q b s) := by
  rw [enqueue_eq]
  split
  next hidle => exact pick_accounted h ((joined_sending p q b s).trans hidle)
  next => exact h

/-- A buffer joins a queue from the hands of an operation, or RETAINED for a retry (R38, R131). -/
theorem joined_accounted (q : Queue) (h : Accounted x k rs hs hand s) (hk : ∀ t ∈ k, t = b)
    (hfrom : hs.Perm (b :: hs') ∨ hs' = hs ∧ (buffer b s).state = .retained
      ∧ ∀ d, (s.drives.get d).retained = some b → (s.drives.get d).timer = none) :
    Accounted x [] rs hs' hand (joined p q b s) := by
  obtain ⟨z, htx, hsending, hqueue, hprio⟩ :=
    Ledger.appendTo_transmitter (b := b) p q (putBuffer b (queuedBuffer p (buffer b s)) s)
  have hbuffers : (joined p q b s).pool.buffers = put s.pool.buffers b (queuedBuffer p (buffer b s)) := by
    cases q <;> rfl
  have hdrives : (joined p q b s).drives = s.drives := by
    cases q <;> rfl
  rw [Accounted, hbuffers, hdrives, joined, htx]
  exact Ledger.join (y := queuedBuffer p (buffer b s)) h hsending hqueue hprio rfl rfl hfrom (fun t ht => .inl (hk t ht))
    fun _ ht => absurd ht List.not_mem_nil

theorem enqueue_accounted (q : Queue) (h : Accounted x k rs hs hand s) (hk : ∀ t ∈ k, t = b)
    (hp : hs.Perm (b :: hs')) : Accounted x [] rs hs' hand (enqueue p q b s) :=
  enqueue_of_joined (joined_accounted q h hk (.inl hp))

theorem enqueue_sound (q : Queue) (h : PoolSound x k rs hs s) (hk : ∀ t ∈ k, t = b) (hp : hs.Perm (b :: hs')) :
    PoolSound x [] rs hs' (enqueue p q b s) :=
  (enqueue_accounted (s := s) q h hk hp).poolSound (enqueue_traffic ..)

theorem setBytes_sound (bs : List Byte) (h : PoolSound x k rs hs s) : PoolSound x k rs hs (setBytes b bs s) :=
  Ledger.contents h rfl rfl

/-- A buffer on cockpit PRIORITY becomes the status frame in hand (R171). -/
theorem Accounted.entrust (h : Accounted x k rs hs hand s) (hb : b ∈ s.tx.cockpit.priority)
    (hret : (buffer b s).retainer = none) : Accounted x k rs hs (some b) s :=
  { h with traced := fun t ht => by cases ht; exact ⟨.inl hb, hret⟩ }

theorem holdForOrigin_accounted (h : Accounted x k rs hs hand s) (hfree : (buffer b s).state = .free) :
    Accounted x k rs (b :: hs) hand (holdForOrigin b s) :=
  Ledger.hold h hfree rfl rfl

/-- A status frame is launched from the hands of the monitor (R171). -/
theorem launchStatus_sound (h : PoolSound x [] rs (b :: hs) s) : PoolSound x [] rs hs (launchStatus b s) := by
  have hret : (buffer b s).retainer = none := Ledger.held_retainer h List.mem_cons_self List.not_mem_nil
  have hhand : (launchStatus b s).monitor.statusInHand = some b := (enqueue_traffic ..).statusInHand
  rw [PoolSound, hhand]
  refine enqueue_of_joined ((joined_accounted (k := []) (hs := b :: hs) (hand := s.monitor.statusInHand) .priority ?_ ?_
    (.inl (List.Perm.refl _))).entrust ?_ ?_)
  · exact setBytes_accounted _ h
  · exact fun _ ht => absurd ht List.not_mem_nil
  · exact List.mem_append_right _ List.mem_cons_self
  · simp only [joined, appendTo, buffer_setTx, buffer_putBuffer_same, queuedBuffer]
    exact (congrArg Buffer.retainer (buffer_setBytes b b _ s)).trans (by rw [if_pos rfl]; exact hret)

end traffic

/-! ## Reports -/

/-- Reports keep the ledger: a status frame takes a FREE buffer into a queue (R171). -/
theorem Reacts.poolSound {x : Option Port} {s t : State} (h : Reacts s t) {rs hs : List Token}
    (hsound : PoolSound x [] rs hs s) : PoolSound x [] rs hs t := by
  induction h generalizing hs with
  | refl => exact hsound
  | trans _ _ ih ih' => exact ih' (ih hsound)
  | fall | want | notice => exact hsound
  | rise _ _ _ _ ih => exact ih (PoolSound.of_eq hsound rfl rfl rfl rfl)
  | inhibit s =>
    rw [lockInhibit_eq]
    exact hsound
  | leave _ _ ih =>
    rw [lockModeLeft_eq]
    exact ih (PoolSound.of_eq hsound rfl rfl rfl rfl)
  | originate hfree _ _ ih =>
    exact launchStatus_sound (ih (holdForOrigin_accounted hsound (lowestFree_spec hfree).1))

end Sys2Proof.Machine
end

section
/-! PROOF. What drive exchanges, cycles, taps and signals leave of the ledger of the pool (R36, R39, R104, R127, R128,
R131 to R136). -/

namespace Sys2Proof.Machine

/-! ## Slots let their buffers go -/

section slots
variable {x : Option Port} {rs hs : List Token} {s : State} {d : Drive} {w : DriveSlot} {b : Token}

theorem setSlot_sound (h : PoolSound x [] rs hs s) (hret : w.retained = (s.drives.get d).retained)
    (hstate : w.state = (s.drives.get d).state) (htimer : w.timer = (s.drives.get d).timer ∨ w.timer = none) :
    PoolSound x [] rs hs (setSlot d w s) :=
  Ledger.setSlot h hret hstate htimer

/-- A slot that retains nothing has its ack timer stopped (R130). -/
theorem PoolSound.timer_of_not_retained (h : PoolSound x [] rs hs s) (hd : (s.drives.get d).retained = none) :
    (s.drives.get d).timer = none := by
  refine Classical.byContradiction fun hne => ?_
  obtain ⟨t, ht, -⟩ := h.tied.timer d hne
  rw [hd] at ht
  cases ht

/-- A slot outside AWAITING retains nothing (R125). -/
theorem PoolSound.retained_of_not_awaiting (h : PoolSound x [] rs hs s) (hd : (s.drives.get d).state ≠ .awaiting) :
    (s.drives.get d).retained = none :=
  Classical.byContradiction fun hne => hd ((h.tied.awaiting d).1 hne)

/-- A slot with a release before it: the release does not touch the slots. -/
theorem setSlot_releaseBuffer_sound (h : PoolSound x [] rs hs (setSlot d w (putBuffer b Buffer.empty s))) :
    PoolSound x [] rs hs (setSlot d w (releaseBuffer b s)) :=
  PoolSound.of_eq h (by simp [putBuffer]) (by simp) (by simp) (releaseBuffer_traffic b s).statusInHand

/-- A slot lets its buffer go and ends outside AWAITING (R36, R133, R134, R135). -/
theorem letGo_sound (h : PoolSound x [] rs hs s) (hret : w.retained = none) (hw : w.state ≠ .awaiting)
    (htimer : w.timer = none) : PoolSound x [] rs hs (setSlot d w (onBuffer letGo (s.drives.get d).retained s)) := by
  cases hd : (s.drives.get d).retained with
  | none => exact Ledger.setEmptySlot h hd hret hw htimer
  | some b =>
    have hstand (hb : (buffer b s).state ≠ .retained) : PoolSound x [] rs hs (setSlot d w (setRetainer b none s)) :=
      Ledger.letStand h hd rfl hb rfl hret hw htimer
    cases hb : (buffer b s).state with
    | retained =>
      simp only [onBuffer, letGo, hb]
      exact setSlot_releaseBuffer_sound (Ledger.letRelease h hd hb hret hw htimer)
    | free | receiving | held | queued | sending =>
      simp only [onBuffer, letGo, hb]
      exact hstand (by simp [hb])

/-- A slot withdraws its buffer and ends outside AWAITING (R128, R39). -/
theorem withdraw_sound (h : PoolSound x [] rs hs s) (hret : w.retained = none) (hw : w.state ≠ .awaiting)
    (htimer : w.timer = none) : PoolSound x [] rs hs (setSlot d w (onBuffer withdraw (s.drives.get d).retained s)) := by
  cases hd : (s.drives.get d).retained with
  | none => exact Ledger.setEmptySlot h hd hret hw htimer
  | some b =>
    have hplace := h.tied.places b (by simp [(h.tied.retainer b d).2 hd])
    rw [or_iff_left List.not_mem_nil] at hplace
    rcases hplace with hb | hb | hb
    · have hb' : (buffer b s).state = .queued := hb
      simp only [onBuffer, withdraw, hb']
      exact setSlot_releaseBuffer_sound (Ledger.unqueue h hd hb (fun p => by cases p <;> rfl) hret hw htimer)
    · have hb' : (buffer b s).state = .sending := hb
      simp only [onBuffer, withdraw, hb']
      exact Ledger.letStand h hd rfl (by simp [hb]) rfl hret hw htimer
    · have hb' : (buffer b s).state = .retained := hb
      simp only [onBuffer, withdraw, hb']
      exact setSlot_releaseBuffer_sound (Ledger.letRelease h hd hb hret hw htimer)

theorem report_sound (k : FaultKind) (active : Bool) (h : PoolSound x [] rs hs s) :
    PoolSound x [] rs hs (report k active s) :=
  (report_reacts k active s).poolSound h

/-- A slot with one more miss (R135). -/
def missed (y : DriveSlot) : DriveSlot := { y with misses := y.misses + 1, missCount := bump y.missCount }

/-- The miss that reaches MISS_LIMIT, or one below it (R135). -/
theorem countMiss_eq (d : Drive) (s : State) : countMiss d s =
    if (s.drives.get d).misses + 1 = missLimit s then
      report (lostKind d) true
        (setSlot d (emptied (missed (s.drives.get d)) .failed) (onBuffer letGo (s.drives.get d).retained s))
    else setSlot d (missed (s.drives.get d)) s := rfl

theorem countMiss_sound (h : PoolSound x [] rs hs s) : PoolSound x [] rs hs (countMiss d s) := by
  rw [countMiss_eq]
  split
  · exact report_sound _ _ (letGo_sound h rfl (by simp [emptied]) rfl)
  · exact setSlot_sound h rfl rfl (.inl rfl)

/-! ## Commands handed over -/

/-- A slot that retains nothing takes a buffer that an operation holds (R127). -/
theorem takeCommand_sound {q : Byte} (h : PoolSound x [] rs hs s) (hb : b ∈ hs)
    (hd : (s.drives.get d).retained = none) : PoolSound x [b] rs hs (takeCommand d b q s) :=
  Ledger.take h hd hb List.not_mem_nil rfl (h.held_state hb) rfl rfl (h.timer_of_not_retained hd)

/-- Two replacements of a slot in a row are the second. -/
@[simp] theorem drives_set_set (y : Drives) (d : Drive) (a c : DriveSlot) : (y.set d a).set d c = y.set d c := by
  cases d <;> rfl

theorem setSlot_setSlot (d : Drive) (a c : DriveSlot) (s : State) :
    setSlot d c (setSlot d a s) = setSlot d c s := by
  simp [setSlot]

/-- What the withdrawn command of a superseding one leaves of the slot (R128). -/
def withdrawn (y : DriveSlot) : DriveSlot := { y with outstanding := none, retained := none, timer := none }

theorem supersede_eq (d : Drive) (s : State) : supersede d s =
    countMiss d (setSlot d (withdrawn (s.drives.get d)) (onBuffer withdraw (s.drives.get d).retained s)) := rfl

theorem missLimit_onBuffer_withdraw (t : Option Token) (s : State) :
    missLimit (onBuffer withdraw t s) = missLimit s :=
  missLimit_of_params (by rw [(onBuffer_traffic withdraw_traffic t s).agent])

/-- A superseding command's miss at MISS_LIMIT loses the drive (R128, R135). -/
theorem supersede_of_limit (h : (s.drives.get d).misses + 1 = missLimit s) : supersede d s =
    report (lostKind d) true
      (setSlot d (emptied (missed (withdrawn (s.drives.get d))) .failed)
        (onBuffer withdraw (s.drives.get d).retained s)) := by
  have hlimit : missLimit (setSlot d (withdrawn (s.drives.get d)) (onBuffer withdraw (s.drives.get d).retained s))
      = missLimit s := missLimit_onBuffer_withdraw _ s
  rw [supersede_eq, countMiss_eq, hlimit]
  simp only [setSlot_drives, drives_get_set_same]
  rw [if_pos (by exact h)]
  simp only [withdrawn, onBuffer, setSlot_setSlot]

/-- A superseding command's miss below MISS_LIMIT is counted (R128). -/
theorem supersede_of_below (h : (s.drives.get d).misses + 1 ≠ missLimit s) : supersede d s =
    setSlot d (missed (withdrawn (s.drives.get d))) (onBuffer withdraw (s.drives.get d).retained s) := by
  have hlimit : missLimit (setSlot d (withdrawn (s.drives.get d)) (onBuffer withdraw (s.drives.get d).retained s))
      = missLimit s := missLimit_onBuffer_withdraw _ s
  rw [supersede_eq, countMiss_eq, hlimit]
  simp only [setSlot_drives, drives_get_set_same]
  rw [if_neg (by exact h)]
  simp only [setSlot_setSlot]

/-- A slot takes over from a superseded command as it does in IDLE (R128, R127). -/
theorem takeCommand_setSlot (d : Drive) (b : Token) (q : Byte) (y : DriveSlot) (s : State) :
    takeCommand d b q (setSlot d y s) =
      setSlot d { y with state := .awaiting, outstanding := some q, retained := some b, retries := 0 }
        (setRetainer b (some d) s) := by
  simp only [takeCommand, setSlot_drives, drives_get_set_same]
  simp [setSlot, setRetainer, putBuffer, buffer]

/-- The state of a slot after a superseded command's miss: FAILED at MISS_LIMIT, AWAITING below it (R128). -/
theorem slot_state_supersede (h : (s.drives.get d).state = .awaiting) :
    ((supersede d s).drives.get d).state = if (s.drives.get d).misses + 1 = missLimit s then .failed else .awaiting := by
  split
  next hlimit =>
    rw [supersede_of_limit hlimit, ((report_reacts ..).reactionOnly.toKeepsBlocks.slot_same d).1]
    simp [emptied]
  next hbelow =>
    rw [supersede_of_below hbelow]
    simpa [missed, withdrawn] using h

/-- A command that supersedes another is held by its slot or by none (R128). -/
theorem supersede_sound (q : Byte) (h : PoolSound x [] rs hs s) (hb : b ∈ hs)
    (hawait : (s.drives.get d).state = .awaiting) :
    PoolSound x (if (s.drives.get d).misses + 1 = missLimit s then [] else [b]) rs hs
      (if ((supersede d s).drives.get d).state = .failed then supersede d s else takeCommand d b q (supersede d s)) := by
  have hlost (st : SlotState) (hst : st ≠ .awaiting) : PoolSound x [] rs hs
      (setSlot d (emptied (missed (withdrawn (s.drives.get d))) st) (onBuffer withdraw (s.drives.get d).retained s)) :=
    withdraw_sound h rfl hst rfl
  rw [slot_state_supersede hawait]
  split
  next hlimit =>
    rw [if_pos rfl, supersede_of_limit hlimit]
    exact report_sound _ _ (hlost .failed (by simp))
  next hbelow =>
    have hidle := takeCommand_sound (q := q) (d := d) (hlost .idle (by simp)) hb (by simp [emptied])
    rw [if_neg (by simp), supersede_of_below hbelow, takeCommand_setSlot]
    rw [takeCommand_setSlot] at hidle
    exact hidle

/-- A command handed over is held by its slot or by none (R126 to R129). -/
theorem handOver_sound (d : Drive) (q : Byte) (h : PoolSound x [] rs hs s) (hb : b ∈ hs) :
    ∃ k, (∀ t ∈ k, t = b) ∧ PoolSound x k rs hs (handOver d b q s) := by
  have hnone : ∀ t ∈ ([] : List Token), t = b := fun _ ht => absurd ht List.not_mem_nil
  have hone : ∀ t ∈ [b], t = b := fun _ => List.mem_singleton.1
  have hcounted : PoolSound x [] rs hs
      (setSlot d { s.drives.get d with sentCount := bump (s.drives.get d).sentCount } s) :=
    setSlot_sound h rfl rfl (.inl rfl)
  unfold handOver
  dsimp only
  split
  next hidle =>
    exact ⟨[b], hone, takeCommand_sound hcounted hb (hcounted.retained_of_not_awaiting (by simp [hidle]))⟩
  next hawait =>
    refine ⟨_, ?_, supersede_sound q hcounted hb (by simpa using hawait)⟩
    split
    · exact hnone
    · exact hone
  next => exact ⟨[], hnone, hcounted⟩

/-! ## Acknowledgements and ack timers -/

theorem deliverAck_sound (d : Drive) (payload : List Byte) (h : PoolSound x [] rs hs s) :
    PoolSound x [] rs hs (deliverAck d payload s) := by
  have hlate : PoolSound x [] rs hs (lateAck d s) := setSlot_sound h rfl rfl (.inl rfl)
  unfold deliverAck
  dsimp only
  split
  · exact hlate
  · split
    · split
      · exact letGo_sound h rfl (by simp [emptied]) rfl
      · exact countMiss_sound (letGo_sound h rfl (by simp [emptied]) rfl)
    · exact hlate

/-- A retry queues the RETAINED buffer of a slot whose ack timer has expired, and so is stopped (R131). -/
theorem retry_sound (h : PoolSound x [] rs hs s) (hd : (s.drives.get d).retained = some b)
    (htimer : (s.drives.get d).timer = none) (hb : (buffer b s).state = .retained) :
    PoolSound x [] rs hs (retry d b s) := by
  have hcounted : PoolSound x [] rs hs (setSlot d { s.drives.get d with
      retries := (s.drives.get d).retries + 1, retryCount := bump (s.drives.get d).retryCount } s) :=
    setSlot_sound h rfl rfl (.inl rfl)
  refine (enqueue_of_joined (joined_accounted .priority hcounted (fun _ ht => absurd ht List.not_mem_nil)
    (.inr ⟨rfl, hb, fun e he => ?_⟩))).poolSound (enqueue_traffic ..)
  have hde : some d = some e := by
    rw [← (hcounted.tied.retainer b d).2 (by simpa using hd), (hcounted.tied.retainer b e).2 he]
  cases hde
  simpa using htimer

theorem retryOrEnd_sound (h : PoolSound x [] rs hs s) (htimer : (s.drives.get d).timer = none)
    (hb : ∀ b, (s.drives.get d).retained = some b → (buffer b s).state = .retained) :
    PoolSound x [] rs hs (retryOrEnd d s) := by
  have hend : PoolSound x [] rs hs
      (setSlot d (emptied (s.drives.get d) .idle) (onBuffer letGo (s.drives.get d).retained s)) :=
    letGo_sound h rfl (by simp [emptied]) rfl
  unfold retryOrEnd
  dsimp only
  split
  next b hd =>
    split
    · exact retry_sound h hd htimer (hb b hd)
    · rwa [hd] at hend
  next hd => rwa [hd] at hend

theorem ackTimerExpiry_sound (d : Drive) (h : PoolSound x [] rs hs s) :
    PoolSound x [] rs hs (ackTimerExpiry d s) := by
  unfold ackTimerExpiry
  dsimp only
  split
  next hdue =>
    have hstopped : PoolSound x [] rs hs (setSlot d { s.drives.get d with timer := none } s) :=
      setSlot_sound h rfl rfl (.inr rfl)
    obtain ⟨b, hd, hb⟩ := h.tied.timer d (by simp_all [timerDue])
    split
    next => exact countMiss_sound hstopped
    next hstays =>
      rw [countMiss_eq] at hstays ⊢
      split at hstays
      next =>
        refine absurd ?_ hstays
        rw [((report_reacts ..).reactionOnly.toKeepsBlocks.slot_same d).1]
        simp [emptied]
      next hbelow =>
        rw [if_neg hbelow]
        refine retryOrEnd_sound (setSlot_sound hstopped rfl rfl (.inl rfl)) (by simp [missed]) fun c hc => ?_
        have hbc : b = c := by
          rw [setSlot_drives, drives_get_set_same] at hc
          simpa [missed, hd] using hc
        subst hbc
        exact hb
  next => exact h

theorem clearSlot_sound (d : Drive) (h : PoolSound x [] rs hs s) : PoolSound x [] rs hs (clearSlot d s) := by
  unfold clearSlot
  dsimp only
  split
  next hfailed =>
    have hnone := h.retained_of_not_awaiting (d := d) (by simp [hfailed])
    exact report_sound _ _ (Ledger.setEmptySlot h hnone hnone (by simp) (h.timer_of_not_retained hnone))
  all_goals exact h

end slots

end Sys2Proof.Machine
end

section
/-! PROOF. What drive exchanges, cycles, taps, the lock and the owners of faults leave of the ledger of the pool when
they hold no buffer of their own. -/

namespace Sys2Proof.Machine

/-! ## What drive exchanges leave -/

/-- Drive exchanges leave these blocks alone (chapter 7). -/
structure ExchangeOnly (s t : State) : Prop where
  resets : t.resets = s.resets
  node : t.node = s.node
  rx : t.rx = s.rx
  classifier : t.classifier = s.classifier
  channels : t.channels = s.channels
  envelope : t.envelope = s.envelope
  shaper : t.shaper = s.shaper
  agent : t.agent = s.agent

theorem ExchangeOnly.refl (s : State) : ExchangeOnly s s := ⟨rfl, rfl, rfl, rfl, rfl, rfl, rfl, rfl⟩

theorem ExchangeOnly.trans {s t u : State} (h : ExchangeOnly s t) (k : ExchangeOnly t u) : ExchangeOnly s u :=
  ⟨k.resets.trans h.resets, k.node.trans h.node, k.rx.trans h.rx, k.classifier.trans h.classifier,
    k.channels.trans h.channels, k.envelope.trans h.envelope, k.shaper.trans h.shaper, k.agent.trans h.agent⟩

theorem ReactionOnly.exchange {s t : State} (h : ReactionOnly s t) : ExchangeOnly s t :=
  ⟨h.resets, h.node, h.rx, h.classifier, h.channels, h.envelope, h.shaper, h.agent⟩

theorem TrafficOnly.exchange {s t : State} (h : TrafficOnly s t) : ExchangeOnly s t := h.reaction.exchange

theorem setSlot_exchange (d : Drive) (y : DriveSlot) (s : State) : ExchangeOnly s (setSlot d y s) :=
  ⟨rfl, rfl, rfl, rfl, rfl, rfl, rfl, rfl⟩

theorem setSlot_letGo_exchange (d : Drive) (y : DriveSlot) (t : Option Token) (s : State) :
    ExchangeOnly s (setSlot d y (onBuffer letGo t s)) :=
  (onBuffer_traffic letGo_traffic t s).exchange.trans (setSlot_exchange ..)

theorem countMiss_exchange (d : Drive) (s : State) : ExchangeOnly s (countMiss d s) := by
  rw [countMiss_eq]
  split
  · exact (setSlot_letGo_exchange ..).trans (report_reaction ..).exchange
  · exact setSlot_exchange ..

theorem takeCommand_exchange (d : Drive) (b : Token) (q : Byte) (s : State) : ExchangeOnly s (takeCommand d b q s) :=
  (setRetainer_traffic b (some d) s).exchange.trans (setSlot_exchange ..)

theorem supersede_exchange (d : Drive) (s : State) : ExchangeOnly s (supersede d s) :=
  ((onBuffer_traffic withdraw_traffic _ s).exchange.trans (setSlot_exchange ..)).trans (countMiss_exchange ..)

theorem handOver_exchange (d : Drive) (b : Token) (q : Byte) (s : State) : ExchangeOnly s (handOver d b q s) := by
  have hcounted := setSlot_exchange d { s.drives.get d with sentCount := bump (s.drives.get d).sentCount } s
  unfold handOver
  dsimp only
  split
  · exact hcounted.trans (takeCommand_exchange ..)
  · split
    · exact hcounted.trans (supersede_exchange ..)
    · exact (hcounted.trans (supersede_exchange ..)).trans (takeCommand_exchange ..)
  · exact hcounted

theorem deliverAck_exchange (d : Drive) (payload : List Byte) (s : State) : ExchangeOnly s (deliverAck d payload s) := by
  unfold deliverAck
  dsimp only
  split
  · exact setSlot_exchange ..
  · split
    · split
      · exact setSlot_letGo_exchange ..
      · exact (setSlot_letGo_exchange ..).trans (countMiss_exchange ..)
    · exact setSlot_exchange ..

theorem retryOrEnd_exchange (d : Drive) (s : State) : ExchangeOnly s (retryOrEnd d s) := by
  unfold retryOrEnd
  dsimp only
  split
  next b _ =>
    split
    · exact (setSlot_exchange ..).trans (enqueue_traffic ..).exchange
    · exact setSlot_letGo_exchange d _ (some b) s
  next => exact setSlot_exchange ..

theorem ackTimerExpiry_exchange (d : Drive) (s : State) : ExchangeOnly s (ackTimerExpiry d s) := by
  have hmissed := (setSlot_exchange d { s.drives.get d with timer := none } s).trans (countMiss_exchange d _)
  unfold ackTimerExpiry
  dsimp only
  split
  · split
    · exact hmissed
    · exact hmissed.trans (retryOrEnd_exchange ..)
  · exact .refl s

theorem clearSlot_exchange (d : Drive) (s : State) : ExchangeOnly s (clearSlot d s) := by
  unfold clearSlot
  dsimp only
  split
  · exact (setSlot_exchange ..).trans (report_reaction ..).exchange
  all_goals exact .refl s

/-! ## Operations that hold no buffer of their own -/

/-- The tokens of receivers and agent are as before, and the ledger is kept. -/
structure KeepsPool (s t : State) : Prop where
  receiving : receivingTokens t = receivingTokens s
  held : heldTokens t = heldTokens s
  sound : ∀ {rs hs : List Token}, PoolSound none [] rs hs s → PoolSound none [] rs hs t

theorem KeepsPool.refl (s : State) : KeepsPool s s := ⟨rfl, rfl, id⟩

theorem KeepsPool.trans {s t u : State} (h : KeepsPool s t) (k : KeepsPool t u) : KeepsPool s u :=
  ⟨k.receiving.trans h.receiving, k.held.trans h.held, fun hs => k.sound (h.sound hs)⟩

theorem KeepsPool.after {s t u : State} (k : KeepsPool t u) (h : KeepsPool s t) : KeepsPool s u := h.trans k

theorem KeepsPool.of_eq {s t : State} (hreceiving : receivingTokens t = receivingTokens s)
    (hheld : heldTokens t = heldTokens s) (hbuffers : t.pool.buffers = s.pool.buffers) (htx : t.tx = s.tx)
    (hdrives : t.drives = s.drives) (hhand : t.monitor.statusInHand = s.monitor.statusInHand) : KeepsPool s t :=
  ⟨hreceiving, hheld, fun h => h.of_eq hbuffers htx hdrives hhand⟩

theorem ExchangeOnly.keepsPool {s t : State} (h : ExchangeOnly s t)
    (hsound : ∀ {rs hs : List Token}, PoolSound none [] rs hs s → PoolSound none [] rs hs t) : KeepsPool s t :=
  ⟨by rw [receivingTokens, h.rx, receivingTokens], by rw [heldTokens, h.agent, heldTokens], hsound⟩

theorem Reacts.keepsPool {s t : State} (h : Reacts s t) : KeepsPool s t :=
  h.reactionOnly.exchange.keepsPool h.poolSound

theorem report_keepsPool (k : FaultKind) (active : Bool) (s : State) : KeepsPool s (report k active s) :=
  (report_reacts k active s).keepsPool

theorem deliverAck_keepsPool (d : Drive) (payload : List Byte) (s : State) : KeepsPool s (deliverAck d payload s) :=
  (deliverAck_exchange ..).keepsPool (deliverAck_sound d payload)

theorem ackTimerExpiry_keepsPool (d : Drive) (s : State) : KeepsPool s (ackTimerExpiry d s) :=
  (ackTimerExpiry_exchange ..).keepsPool (ackTimerExpiry_sound d)

theorem clearSlot_keepsPool (d : Drive) (s : State) : KeepsPool s (clearSlot d s) :=
  (clearSlot_exchange ..).keepsPool (clearSlot_sound d)

/-! ## The lock -/

/-- The lean law and the lock are not in the ledger. -/
theorem KeepsPool.of_control (x : LeanLaw) (y : Lock) (s : State) : KeepsPool s { s with lean := x, lock := y } :=
  .of_eq rfl rfl rfl rfl rfl rfl

theorem handBack_keepsPool (s : State) : KeepsPool s (handBack s) := by
  unfold handBack
  split
  · exact .of_control _ s.lock s
  all_goals exact .refl s

theorem reportFresh_keepsPool (speed lean : Int) (s : State) : KeepsPool s (reportFresh speed lean s) := by
  have hlock (y : Lock) : KeepsPool s { s with lock := y } := .of_control s.lean y s
  unfold reportFresh
  split
  · unfold reportEngaged
    split
    · split
      · exact hlock _
      · split
        · exact hlock _
        · exact .refl s
    · exact hlock _
  · unfold reportFree
    split
    · split
      · exact hlock _
      · split
        · exact hlock _
        · exact .refl s
    · exact hlock _
  · unfold reportSettling
    split
    · exact hlock _
    · split
      · exact hlock _
      · exact .refl s
  all_goals exact .refl s

theorem completionReport_keepsPool (speed lean : Int) (stale : Bool) (s : State) :
    KeepsPool s (completionReport speed lean stale s) := by
  have hjudged : KeepsPool s (if stale then reportStale s else reportFresh speed lean s) := by
    split
    · exact .of_control s.lean _ s
    · exact reportFresh_keepsPool ..
  unfold completionReport
  dsimp only
  split
  · exact hjudged.trans (handBack_keepsPool _)
  all_goals exact hjudged

theorem lockSignal_keepsPool (v : Word) (s : State) : KeepsPool s (lockSignal v s) := by
  unfold lockSignal
  dsimp only
  split
  · exact report_keepsPool ..
  · exact report_keepsPool ..
  · split
    · exact .refl s
    · exact ((KeepsPool.of_control s.lean _ s).trans (report_keepsPool ..)).trans (report_keepsPool ..)
  · split
    · exact (((KeepsPool.of_control s.lean _ s).trans (report_keepsPool ..)).trans (report_keepsPool ..)).trans
        (handBack_keepsPool _)
    · exact .refl s
  · exact .refl s

theorem confirmExpiryReleasing_keepsPool (s : State) : KeepsPool s (confirmExpiryReleasing s) := by
  unfold confirmExpiryReleasing
  split
  · exact (KeepsPool.of_control s.lean _ s).trans (report_keepsPool ..)
  · exact .refl s

theorem confirmExpiryEngaging_keepsPool (s : State) : KeepsPool s (confirmExpiryEngaging s) := by
  unfold confirmExpiryEngaging
  split
  · exact (KeepsPool.of_control s.lean _ s).trans (report_keepsPool ..)
  · exact .refl s

theorem releaseQualifyExpiry_keepsPool (s : State) : KeepsPool s (releaseQualifyExpiry s) := by
  unfold releaseQualifyExpiry
  split
  · exact .of_control s.lean _ s
  · exact .refl s

theorem engageQualifyExpiry_keepsPool (s : State) : KeepsPool s (engageQualifyExpiry s) := by
  unfold engageQualifyExpiry
  split
  · exact .of_control s.lean _ s
  · exact .refl s

/-! ## Cycles -/

theorem startCycle_keepsPool (c : Cause) (s : State) : KeepsPool s (startCycle c s) := by
  unfold startCycle
  split
  · exact .refl s
  all_goals exact .of_control _ s.lock s

theorem anchorSignal_keepsPool (s : State) : KeepsPool s (anchorSignal s) := by
  unfold anchorSignal
  split
  · exact .refl s
  all_goals
    split
    · exact startCycle_keepsPool ..
    · split
      · exact .of_control _ s.lock s
      · exact (KeepsPool.of_control _ s.lock s).trans (report_keepsPool ..)

/-- An origin claim that succeeds puts a buffer into the hands of the claimant (R33). -/
theorem claimOrigin_sound {x : Option Port} {rs hs : List Token} {s : State} {b : Token} (h : PoolSound x [] rs hs s)
    (hfree : lowestFree s = some b) :
    PoolSound x [] rs (b :: hs) (report .poolExhausted false (holdForOrigin b s)) :=
  report_sound _ _ (holdForOrigin_accounted h (lowestFree_spec hfree).1)

theorem claimOrigin_of_free {s : State} {b : Token} (h : lowestFree s = some b) :
    claimOrigin s = (some b, report .poolExhausted false (holdForOrigin b s)) := by
  simp [claimOrigin, h]

theorem claimOrigin_of_none {s : State} (h : lowestFree s = none) :
    claimOrigin s = (none, report .poolExhausted true s) := by
  simp [claimOrigin, h]

theorem launchTilt_sound {rs hs : List Token} {s : State} {b : Token} (c : Cycle)
    (h : PoolSound none [] rs (b :: hs) s) : PoolSound none [] rs hs (launchTilt c b s) := by
  obtain ⟨k, hk, hover⟩ := handOver_sound .tilt s.lean.tiltSeq
    (s := { setBytes b (buildFrame 3 (tiltStream s) s.lean.tiltSeq (tiltPayload c)) s with
      lean := { s.lean with tiltSeq := s.lean.tiltSeq + 1 } })
    (setBytes_sound _ h) List.mem_cons_self
  exact enqueue_sound .priority hover hk (List.Perm.refl _)

theorem launchTilt_exchange (c : Cycle) (b : Token) (s : State) : ExchangeOnly s (launchTilt c b s) := by
  have hbuilt : ExchangeOnly s { setBytes b (buildFrame 3 (tiltStream s) s.lean.tiltSeq (tiltPayload c)) s with
      lean := { s.lean with tiltSeq := s.lean.tiltSeq + 1 } } := ⟨rfl, rfl, rfl, rfl, rfl, rfl, rfl, rfl⟩
  exact ((hbuilt.trans (handOver_exchange ..)).trans (enqueue_traffic ..).exchange).trans
    ⟨rfl, rfl, rfl, rfl, rfl, rfl, rfl, rfl⟩

theorem originateTilt_keepsPool (c : Cycle) (s : State) : KeepsPool s (originateTilt c s) := by
  unfold originateTilt
  split
  · cases hfree : lowestFree s with
    | some b =>
      rw [claimOrigin_of_free hfree]
      exact (((holdForOrigin_traffic b s).exchange.trans (report_reaction ..).exchange).trans
        (launchTilt_exchange ..)).keepsPool fun h => launchTilt_sound c (claimOrigin_sound h hfree)
    | none =>
      rw [claimOrigin_of_none hfree]
      exact (report_keepsPool ..).trans (.of_eq rfl rfl rfl rfl rfl rfl)
  · exact .refl s

theorem judgeExcursion_keepsPool (c : Cycle) (s : State) : KeepsPool s (judgeExcursion c s) := by
  unfold judgeExcursion
  split
  · split
    · dsimp only
      split
      · exact (KeepsPool.of_control _ s.lock s).trans (report_keepsPool ..)
      · exact .of_control _ s.lock s
    · exact (KeepsPool.of_control _ s.lock s).trans (report_keepsPool ..)
  · exact .refl s

theorem pendingAnchorStart_keepsPool (s : State) : KeepsPool s (pendingAnchorStart s) := by
  unfold pendingAnchorStart
  split
  · exact (KeepsPool.of_control _ s.lock s).trans (startCycle_keepsPool ..)
  · exact report_keepsPool ..

theorem cycleTimerExpiry_keepsPool (s : State) : KeepsPool s (cycleTimerExpiry s) := by
  have hstopped : KeepsPool s { s with lean := { s.lean with timer := none } } := .of_control _ s.lock s
  unfold cycleTimerExpiry
  split
  · dsimp only
    split
    · exact hstopped.trans (startCycle_keepsPool ..)
    · exact hstopped
  · exact .refl s

/-! ## Taps -/

theorem reportStaleOf_keepsPool (r : Role) (active : Bool) (s : State) : KeepsPool s (reportStaleOf r active s) := by
  unfold reportStaleOf
  split
  · exact .refl s
  · exact report_keepsPool ..

theorem putRecord_keepsPool (c : Channel) (r : ChannelRecord) (s : State) : KeepsPool s (putRecord c r s) :=
  .of_eq rfl rfl rfl rfl rfl rfl

theorem tap_keepsPool (frame : List Byte) (c : Channel) (g : Signals) (s : State) :
    KeepsPool s (tap frame c g s).2 := by
  unfold tap
  dsimp only
  split
  · exact .of_eq rfl rfl rfl rfl rfl rfl
  · split
    · exact putRecord_keepsPool ..
    · split
      · exact putRecord_keepsPool ..
      · exact (putRecord_keepsPool ..).trans (reportStaleOf_keepsPool ..)

theorem tapAll_keepsPool (frame : List Byte) (cs : List Channel) (g : Signals) (s : State) :
    KeepsPool s (tapAll frame cs g s).2 := by
  induction cs generalizing g s with
  | nil => exact .refl s
  | cons c rest ih => exact (tap_keepsPool frame c g s).trans (ih ..)

theorem giveSignals_keepsPool (g : Signals) (s : State) : KeepsPool s (giveSignals g s) := by
  have hanchor : KeepsPool s (if g.anchor then anchorSignal s else s) := by
    split
    · exact anchorSignal_keepsPool s
    · exact .refl s
  unfold giveSignals
  dsimp only
  split
  · exact hanchor
  · exact hanchor.trans (lockSignal_keepsPool ..)

theorem tapFrame_keepsPool (frame : List Byte) (cs : List Channel) (s : State) : KeepsPool s (tapFrame frame cs s) :=
  (tapAll_keepsPool frame cs noSignals s).trans (giveSignals_keepsPool ..)

theorem freshnessTimerExpiry_keepsPool (c : Channel) (s : State) : KeepsPool s (freshnessTimerExpiry c s) := by
  unfold freshnessTimerExpiry
  dsimp only
  split
  · exact (putRecord_keepsPool ..).trans (reportStaleOf_keepsPool ..)
  · exact .refl s

/-! ## The fault monitor -/

/-- The monitor but for the status frame in hand is not in the ledger. -/
theorem KeepsPool.of_monitor {m : Monitor} {s : State} (h : m.statusInHand = s.monitor.statusInHand) :
    KeepsPool s { s with monitor := m } :=
  .of_eq rfl rfl rfl rfl rfl h

theorem reportPortQuiet_keepsPool (p : Port) (s : State) : KeepsPool s (reportPortQuiet p s) := by
  unfold reportPortQuiet
  split
  · exact .refl s
  · dsimp only
    split
    · exact .of_monitor rfl
    · exact (report_keepsPool ..).after (.of_monitor rfl)

theorem reportPortHeard_keepsPool (p : Port) (s : State) : KeepsPool s (reportPortHeard p s) := by
  unfold reportPortHeard
  split
  · exact .refl s
  · dsimp only
    split
    · exact .of_monitor rfl
    · exact (report_keepsPool ..).after (.of_monitor rfl)

theorem statusClaimRetry_keepsPool (s : State) : KeepsPool s (statusClaimRetry s) := by
  have htold : KeepsPool s { s with monitor := { s.monitor with retryDue := false } } := .of_monitor rfl
  unfold statusClaimRetry
  split
  · dsimp only
    split
    · exact htold.trans (originateStatus_reacts _).keepsPool
    · exact htold
  · exact .refl s

theorem statusIntervalExpiry_keepsPool (s : State) : KeepsPool s (statusIntervalExpiry s) := by
  unfold statusIntervalExpiry
  split
  · exact (wantStatus_reacts _).keepsPool.after (.of_monitor rfl)
  · exact .refl s

theorem supplyFell_keepsPool (s : State) : KeepsPool s (supplyFell s) := by
  unfold supplyFell
  split
  · exact .refl s
  · exact (report_keepsPool ..).after (.of_monitor rfl)

theorem supplyRose_keepsPool (s : State) : KeepsPool s (supplyRose s) := by
  unfold supplyRose
  split
  · exact (report_keepsPool ..).after (.of_monitor rfl)
  · exact .refl s

theorem settleFaults_keepsPool (old : Vector FaultRecord 16) (s : State) : KeepsPool s (settleFaults old s) := by
  have hjudged : KeepsPool s (judgeAlert s) := .of_monitor rfl
  unfold settleFaults
  dsimp only
  split
  · exact hjudged.trans (wantStatus_reacts _).keepsPool
  · exact hjudged

end Sys2Proof.Machine
end

section
/-! PROOF. What the management agent, the receivers, the classifier and the transmitters leave of the ledger of the
pool (R2 to R27, R45, R181 to R183, R191). -/

namespace Sys2Proof.Machine

/-! ## The ledger between steps -/

/-- The ledger with nothing under way. -/
def PoolRight (s : State) : Prop := PoolSound none [] (receivingTokens s) (heldTokens s) s

/-- The ledger with buffer `b` in the hands of the operation. -/
def InHand (b : Token) (s : State) : Prop := PoolSound none [] (receivingTokens s) (b :: heldTokens s) s

theorem KeepsPool.right {s t : State} (h : KeepsPool s t) (hs : PoolRight s) : PoolRight t := by
  rw [PoolRight, h.receiving, h.held]
  exact h.sound hs

theorem KeepsPool.inHand {b : Token} {s t : State} (h : KeepsPool s t) (hs : InHand b s) : InHand b t := by
  rw [InHand, h.receiving, h.held]
  exact h.sound hs

theorem ExchangeOnly.poolRight {s t : State} (h : ExchangeOnly s t)
    (ht : PoolSound none [] (receivingTokens s) (heldTokens s) t) : PoolRight t := by
  rw [PoolRight, receivingTokens, heldTokens, h.rx, h.agent]
  exact ht

section hands
variable {x : Option Port} {k rs rs' hs hs' : List Token} {s : State} {b : Token} {p : Port}

theorem PoolSound.permHeld (h : PoolSound x [] rs hs s) (hp : hs'.Perm hs) : PoolSound x [] rs hs' s :=
  { h with held := h.held.perm hp, limbo := fun _ ht => absurd ht List.not_mem_nil }

theorem PoolSound.permReceiving (h : PoolSound x k rs hs s) (hp : rs'.Perm rs) : PoolSound x k rs' hs s :=
  { h with receiving := h.receiving.perm hp }

theorem releaseBuffer_sound (h : PoolSound x [] rs hs s) (hp : hs.Perm (b :: hs')) :
    PoolSound x [] rs hs' (releaseBuffer b s) :=
  (releaseBuffer_accounted (Ledger.releaseHeld h hp)).poolSound (releaseBuffer_traffic b s)

theorem InHand.release (h : InHand b s) : PoolRight (releaseBuffer b s) :=
  (releaseBuffer_traffic b s).exchange.poolRight (releaseBuffer_sound h (List.Perm.refl _))

/-- A frame in hand is forwarded (R7). -/
theorem forward_right (urgent : Bool)
    (h : PoolSound none k (receivingTokens s) (b :: heldTokens s) s) (hk : ∀ t ∈ k, t = b) :
    PoolRight (forward p urgent b s) :=
  (forward_traffic p urgent b s).exchange.poolRight
    (enqueue_sound _ h hk (List.Perm.refl _))

theorem InHand.forward (h : InHand b s) (urgent : Bool) : PoolRight (forward p urgent b s) :=
  forward_right urgent h fun _ ht => absurd ht List.not_mem_nil

end hands

/-! ## The agent -/

/-- The tokens of listed requests and of the reply of a pending commit: those of the agent with no request in hand. -/
def waitingTokens (requests : List Request) (s : State) : List Token :=
  requests.map (·.buffer) ++ s.agent.pendingCommit.toList.map (·.reply)

theorem heldTokens_of_idle {s : State} (h : s.agent.inHand = none) :
    heldTokens s = waitingTokens s.agent.requests s := by
  simp [heldTokens, waitingTokens, h]

theorem heldTokens_of_inHand {s : State} {rq : RequestInHand} (h : s.agent.inHand = some rq) :
    (heldTokens s).Perm (rq.request :: rq.reply :: waitingTokens s.agent.requests s) := by
  simp only [heldTokens, waitingTokens, h, Option.toList_some, List.map_cons, List.map_nil]
  rw [List.perm_iff_count]
  intro t
  simp only [List.count_append, List.count_cons, List.count_nil]
  omega

theorem beginFrom_sound {rs : List Token} {l : List Request} {s : State} (hidle : s.agent.inHand = none)
    (h : PoolSound none [] rs (waitingTokens l s) s) :
    PoolSound none [] rs (heldTokens (beginFrom l s)) (beginFrom l s) := by
  induction l generalizing s with
  | nil =>
    have hheld : heldTokens (beginFrom [] s) = waitingTokens [] s := heldTokens_of_idle hidle
    rw [hheld]
    exact h
  | cons r rest ih =>
    have hlisted : PoolSound none [] rs (waitingTokens (r :: rest) s)
        { s with agent := { s.agent with requests := rest } } := h
    cases hfree : lowestFree { s with agent := { s.agent with requests := rest } } with
    | some b =>
      have hclaimed := claimOrigin_sound hlisted hfree
      have hagent := ((holdForOrigin_traffic b { s with agent := { s.agent with requests := rest } }).reaction.trans
        (report_reaction .poolExhausted false _)).agent
      rw [beginFrom, claimOrigin_of_free hfree]
      dsimp only
      refine PoolSound.permHeld hclaimed ((heldTokens_of_inHand rfl).trans ?_)
      simp only [waitingTokens, hagent, List.map_cons, List.cons_append]
      exact List.Perm.swap ..
    | none =>
      have hagent := (report_reaction .poolExhausted true { s with agent := { s.agent with requests := rest } }).agent
      have hdropped := releaseBuffer_sound (report_sound .poolExhausted true hlisted) (List.Perm.refl _)
      have hagent' := (releaseBuffer_traffic r.buffer
        (report .poolExhausted true { s with agent := { s.agent with requests := rest } })).agent.trans hagent
      rw [beginFrom, claimOrigin_of_none hfree]
      dsimp only
      refine ih (s := dropRequest r.buffer _) ?_ ?_
      · simp only [dropRequest, setAgentCounters, hagent']
        exact hidle
      · have hwaiting : waitingTokens rest (dropRequest r.buffer
            (report .poolExhausted true { s with agent := { s.agent with requests := rest } })) = waitingTokens rest s := by
          simp only [waitingTokens, dropRequest, setAgentCounters, hagent']
        rw [hwaiting]
        exact hdropped

theorem beginRequests_sound {rs : List Token} {s : State} (h : PoolSound none [] rs (heldTokens s) s) :
    PoolSound none [] rs (heldTokens (beginRequests s)) (beginRequests s) := by
  unfold beginRequests
  split
  next hidle =>
    rw [heldTokens_of_idle hidle] at h
    exact beginFrom_sound hidle h
  next => exact h

theorem beginRequests_right {s : State} (h : PoolRight s) : PoolRight (beginRequests s) := by
  rw [PoolRight, receivingTokens, (beginRequests_request s).rx]
  exact beginRequests_sound h

/-- A request to self is listed, and begun when no other is in hand (R181). -/
theorem InHand.takeRequest {b : Token} {s : State} (h : InHand b s) (p : Port) : PoolRight (takeRequest b p s) := by
  refine beginRequests_right (PoolSound.permHeld (hs := b :: heldTokens s) h ?_)
  simp only [heldTokens, setAgentCounters, List.map_append, List.map_cons, List.map_nil]
  rw [List.perm_iff_count]
  intro t
  simp only [List.count_append, List.count_cons, List.count_nil]
  omega

theorem queueReply_agent (rq : RequestInHand) (r : Result) (data : List Byte) (s : State) :
    (queueReply rq r data s).agent = { s.agent with counters := (queueReply rq r data s).agent.counters } := by
  have htraffic (bs : List Byte) := ((releaseBuffer_traffic rq.request s).trans (setBytes_traffic rq.reply bs _)).trans
    (enqueue_traffic rq.port .priority rq.reply _)
  simp only [queueReply, countReply, setAgentCounters, (htraffic _).agent]

theorem queueReply_sound {rs hs : List Token} {s : State} {rq : RequestInHand} (r : Result) (data : List Byte)
    (h : PoolSound none [] rs (rq.request :: rq.reply :: hs) s) : PoolSound none [] rs hs (queueReply rq r data s) := by
  have hreleased := releaseBuffer_sound h (List.Perm.refl _)
  have hqueued (bs : List Byte) : PoolSound none [] rs hs
      (enqueue rq.port .priority rq.reply (setBytes rq.reply bs (releaseBuffer rq.request s))) :=
    enqueue_sound .priority (setBytes_sound bs hreleased) (fun _ ht => absurd ht List.not_mem_nil) (List.Perm.refl _)
  have hcounted (u : State) (hu : PoolSound none [] rs hs u) : PoolSound none [] rs hs (countReply r u) :=
    hu.of_eq rfl rfl rfl rfl
  unfold queueReply
  dsimp only
  exact hcounted _ (hqueued _)

/-- The agent goes on to its next request with the ledger right (R183, R181). -/
theorem nextRequest_sound {rs : List Token} {s : State} (h : PoolSound none [] rs (waitingTokens s.agent.requests s) s) :
    PoolSound none [] rs (heldTokens (nextRequest s)) (nextRequest s) := by
  refine beginRequests_sound ?_
  rw [heldTokens_of_idle rfl]
  exact h

theorem answer_right {s : State} (r : Result) (data : List Byte) (h : PoolRight s) : PoolRight (answer r data s) := by
  have hrx := (answer_request r data s).rx
  rw [PoolRight, receivingTokens, hrx]
  unfold answer
  split
  next => exact h
  next rq hrq =>
    have hqueued := queueReply_sound r data (h.permHeld (heldTokens_of_inHand hrq).symm)
    have hwaiting : waitingTokens (queueReply rq r data s).agent.requests (queueReply rq r data s)
        = waitingTokens s.agent.requests s := by
      rw [waitingTokens, waitingTokens, queueReply_agent]
    refine nextRequest_sound ?_
    rw [hwaiting]
    exact hqueued

theorem completeRequest_right {code : RequestCode} {execute : List Byte → State → State} {s : State}
    (h : ∀ payload, PoolRight s → PoolRight (execute payload s)) (hs : PoolRight s) :
    PoolRight (completeRequest code execute s) := by
  unfold completeRequest
  split
  · exact hs
  · split
    · exact answer_right _ _ hs
    · exact h _ hs

/-- An ENVELOPE commit becomes pending: the reply buffer stays with the agent (R191). -/
theorem holdCommit_right {s : State} (hpending : s.agent.pendingCommit = none) (h : PoolRight s) :
    PoolRight (holdCommit s) := by
  cases hrq : s.agent.inHand with
  | none =>
    simp only [holdCommit, hrq]
    exact h
  | some rq =>
    have hreleased := releaseBuffer_sound (h.permHeld (heldTokens_of_inHand hrq).symm) (List.Perm.refl _)
    have hagent := (releaseBuffer_traffic rq.request s).agent
    simp only [holdCommit, hrq]
    rw [PoolRight, receivingTokens, (nextRequest_request _).rx]
    dsimp only
    rw [(releaseBuffer_traffic rq.request s).rx]
    refine nextRequest_sound (PoolSound.permHeld hreleased ?_)
    simp only [waitingTokens, hagent, hpending, Option.toList_some, Option.toList_none, List.map_cons, List.map_nil,
      List.append_nil]
    exact List.perm_append_comm

/-- The DONE reply of a pending commit is queued in the buffer that the agent has held for it (R191). -/
theorem applyPendingCommit_right {s : State} (h : PoolRight s) : PoolRight (applyPendingCommit s) := by
  cases hpc : s.agent.pendingCommit with
  | none =>
    simp only [applyPendingCommit, hpc]
    exact h
  | some pc =>
    simp only [applyPendingCommit, hpc]
    generalize hu : setBytes pc.reply _ _ = u
    have hagent : u.agent.requests = s.agent.requests ∧ u.agent.inHand = s.agent.inHand
        ∧ u.agent.pendingCommit = none ∧ u.rx = s.rx := by
      rw [← hu]
      exact ⟨rfl, rfl, rfl, rfl⟩
    obtain ⟨hrequests, hinHand, hnone, hrx⟩ := hagent
    have hbuilt : PoolSound none [] (receivingTokens s) (heldTokens s) u := by
      rw [← hu]
      exact setBytes_sound _ h
    have hheld : (heldTokens s).Perm (pc.reply :: heldTokens u) := by
      simp only [heldTokens, hrequests, hinHand, hnone, hpc, Option.toList_some, Option.toList_none, List.map_cons,
        List.map_nil, List.append_nil]
      exact List.perm_append_comm
    have hqueued := enqueue_sound (p := pc.port) .priority hbuilt (fun _ ht => absurd ht List.not_mem_nil) hheld
    have hright : PoolRight (enqueue pc.port .priority pc.reply u) := by
      refine (enqueue_traffic ..).exchange.poolRight ?_
      rw [receivingTokens, hrx]
      exact hqueued
    exact (KeepsPool.of_eq rfl rfl rfl rfl rfl rfl).right hright

theorem cycleCompletion_right {s : State} (h : PoolRight s) : PoolRight (cycleCompletion s) := by
  unfold cycleCompletion
  split
  next => exact h
  next c _ =>
    have hrecorded : KeepsPool s (recordResults c s) := .of_control _ s.lock s
    exact (pendingAnchorStart_keepsPool _).right (applyPendingCommit_right
      ((((hrecorded.trans (originateTilt_keepsPool c _)).trans (judgeExcursion_keepsPool c _)).trans
        (completionReport_keepsPool ..)).right h))

/-! ## Classification -/

theorem shapeFrame_forward_right {b : Token} {s : State} (frame : List Byte) (o : Fin 16) (p : Port) (urgent : Bool)
    (h : InHand b s) : PoolRight (forward p urgent b (shapeFrame b frame o s)) := by
  have hreported (y : Shaper) (active : Bool) : KeepsPool s (report .demandClamped active { s with shaper := y }) :=
    (report_keepsPool ..).after (.of_eq rfl rfl rfl rfl rfl rfl)
  have hwritten (y : Shaper) (active : Bool) (bs : List Byte) :
      InHand b (setBytes b bs (report .demandClamped active { s with shaper := y })) :=
    setBytes_sound bs ((hreported y active).inHand h)
  unfold shapeFrame trackSteerFrame
  dsimp only
  split
  · obtain ⟨k, hk, hover⟩ := handOver_sound .steer (frameSeq frame) (hwritten _ _ _) List.mem_cons_self
    refine forward_right urgent ?_ hk
    rw [receivingTokens, heldTokens, (handOver_exchange ..).rx, (handOver_exchange ..).agent]
    exact hover
  · exact (hwritten _ _ _).forward urgent

theorem shape_right {b : Token} {s : State} (p : Port) (cs : List Channel) (urgent : Bool) (h : InHand b s) :
    PoolRight (shape p b cs urgent s) := by
  have htapped := (tapFrame_keepsPool (buffer b s).bytes cs s).inHand h
  unfold shape
  dsimp only
  split
  · have hbypassed : KeepsPool (tapFrame (buffer b s).bytes cs s) (bypassFrame (tapFrame (buffer b s).bytes cs s)) :=
      (report_keepsPool ..).after (.of_eq rfl rfl rfl rfl rfl rfl)
    exact (hbypassed.inHand htapped).forward urgent
  · exact shapeFrame_forward_right _ _ p urgent htapped

theorem perform_right {b : Token} {s : State} (e : StreamEntry) (p : Port) (h : InHand b s) :
    PoolRight (perform e p b s) := by
  have htapped := (tapFrame_keepsPool (buffer b s).bytes e.taps s).inHand h
  unfold perform
  dsimp only
  split
  · exact h.forward _
  · exact htapped.forward _
  · exact htapped.release
  · exact shape_right p _ _ h
  · exact ((deliverAck_keepsPool ..).inHand h).release
  · exact h.release

/-- A frame in hand is disposed of (R2). -/
theorem classify_right {b : Token} {s : State} (p : Port) (h : InHand b s) : PoolRight (classify p b s) := by
  have hcounted (m : Vector Counter 24) (c i : Counter) :
      InHand b { s with classifier := { s.classifier with matched := m, defaulted := c, tapIdle := i } } := h
  unfold classify
  dsimp only
  split
  · exact h.takeRequest p
  · split
    · exact h.forward _
    · split
      · exact perform_right _ p (hcounted _ _ _)
      · unfold defaultDisposition
        dsimp only
        split
        · exact (hcounted _ _ _).release
        · exact (hcounted _ _ _).forward _

/-! ## Receivers -/

theorem receivingTokens_setRx (p : Port) (r : Receiver) (s : State) :
    (receivingTokens (setRx p r s)).Perm
      ((phaseBuffer r.phase).toList ++ (phaseBuffer (s.rx.get p.opposite).phase).toList) := by
  cases p with
  | cockpit => exact List.Perm.refl _
  | chassis => exact List.perm_append_comm

theorem receivingTokens_perm (p : Port) (s : State) :
    (receivingTokens s).Perm
      ((phaseBuffer (s.rx.get p).phase).toList ++ (phaseBuffer (s.rx.get p.opposite).phase).toList) := by
  have h := receivingTokens_setRx p (s.rx.get p) s
  simpa [setRx] using h

theorem setRx_keepsPool {p : Port} {r : Receiver} {s : State}
    (h : phaseBuffer r.phase = phaseBuffer (s.rx.get p).phase) : KeepsPool s (setRx p r s) := by
  refine .of_eq ?_ rfl rfl rfl rfl rfl
  cases p with
  | cockpit =>
    rw [receivingTokens, receivingTokens]
    exact congrArg (Option.toList · ++ _) h
  | chassis =>
    rw [receivingTokens, receivingTokens]
    exact congrArg (_ ++ Option.toList ·) h

/-- The buffer of a frame in progress is released, and its receiver leaves BODY (R26, R27). -/
theorem setRx_releaseBuffer_right {p : Port} {r : Receiver} {b : Token} {s : State} (h : PoolRight s)
    (hphase : phaseBuffer (s.rx.get p).phase = some b) (hr : phaseBuffer r.phase = none) :
    PoolRight (setRx p r (releaseBuffer b s)) := by
  have hperm : (receivingTokens s).Perm (b :: receivingTokens (setRx p r (releaseBuffer b s))) := by
    refine (receivingTokens_perm p s).trans ?_
    refine List.Perm.trans ?_ ((receivingTokens_setRx p r (releaseBuffer b s)).symm.cons b)
    rw [hphase, hr, releaseBuffer_rx]
    exact List.Perm.refl _
  have hheld : heldTokens (setRx p r (releaseBuffer b s)) = heldTokens s := by
    rw [heldTokens, setRx_agent, (releaseBuffer_traffic b s).agent, heldTokens]
  rw [PoolRight, hheld]
  exact PoolSound.of_eq ((releaseBuffer_accounted (Ledger.releaseReceived h hperm)).poolSound
    (releaseBuffer_traffic b s)) rfl rfl rfl rfl

theorem setRx_setRx (p : Port) (r r' : Receiver) (s : State) : setRx p r' (setRx p r s) = setRx p r' s := by
  simp [setRx]

theorem setPhase_keepsPool {p : Port} {ph : RxPhase} {s : State} (h : phaseBuffer ph = phaseBuffer (s.rx.get p).phase) :
    KeepsPool s (setPhase p ph s) := setRx_keepsPool h

theorem cutFrame_right {p : Port} {s : State} (h : PoolRight s) : PoolRight (cutFrame p s) := by
  cases hphase : (s.rx.get p).phase with
  | idle =>
    simp only [cutFrame, hphase]
    exact h
  | header =>
    simp only [cutFrame, hphase, countCheckError, setPhase, setRx_setRx]
    exact (setRx_keepsPool (by simp [hphase, phaseBuffer])).right h
  | body b n =>
    simp only [cutFrame, hphase, countCheckError, setPhase, setRx_setRx]
    exact setRx_releaseBuffer_right h (by simp [hphase, phaseBuffer]) rfl
  | discarding n =>
    simp only [cutFrame, hphase, setPhase]
    exact (setRx_keepsPool (by simp [hphase, phaseBuffer])).right h

theorem frameStart_right {p : Port} {s : State} (h : PoolRight s) : PoolRight (frameStart p s) :=
  (setRx_keepsPool (by simp [rx_get_cutFrame, phaseBuffer])).right (cutFrame_right h)

theorem arrivalClaim_free {s : State} {b : Token} (h : arrivalClaim s = some b) : (buffer b s).state = .free := by
  unfold arrivalClaim at h
  split at h
  · exact (lowestFree_spec h).1
  · cases h

/-- A header that claims a buffer: the receiver is in BODY with it (R25). -/
theorem receiveInto_right {p : Port} {b : Token} {n : Nat} {bs : List Byte} {s : State} (h : PoolRight s)
    (hphase : phaseBuffer (s.rx.get p).phase = none) (hfree : (buffer b s).state = .free) :
    PoolRight (setPhase p (.body b n) (receiveInto b p bs s)) := by
  have hperm : (receivingTokens (setPhase p (.body b n) (receiveInto b p bs s))).Perm (b :: receivingTokens s) := by
    refine (receivingTokens_setRx p _ (receiveInto b p bs s)).trans (List.Perm.trans ?_
      ((receivingTokens_perm p s).symm.cons b))
    rw [hphase]
    exact List.Perm.refl _
  exact PoolSound.permReceiving (rs := b :: receivingTokens s) (Ledger.receive h hfree rfl rfl) hperm

theorem headerComplete_right {p : Port} {b0 b1 b2 b3 : Byte} {s : State} (h : PoolRight s) :
    PoolRight (headerComplete p b0 b1 b2 b3 s) := by
  cases hphase : (s.rx.get p).phase with
  | header =>
    have hnone : phaseBuffer (s.rx.get p).phase = none := by rw [hphase, phaseBuffer]
    simp only [headerComplete, hphase]
    have hdiscarding (r : Receiver) (hr : phaseBuffer r.phase = none) : PoolRight (setRx p r s) :=
      (setRx_keepsPool (hr.trans hnone.symm)).right h
    split
    · exact hdiscarding _ rfl
    · split
      next b hclaim => exact receiveInto_right h hnone (arrivalClaim_free hclaim)
      next => exact hdiscarding _ rfl
  | idle | body | discarding =>
    simp only [headerComplete, hphase]
    exact h

theorem discardEnd_right {p : Port} {s : State} (h : PoolRight s) : PoolRight (discardEnd p s) := by
  cases hphase : (s.rx.get p).phase with
  | discarding n =>
    simp only [discardEnd, hphase]
    exact (setRx_keepsPool (by simp [hphase, phaseBuffer])).right h
  | idle | header | body =>
    simp only [discardEnd, hphase]
    exact h

/-- A good frame goes from its receiver into the hands of the classification (R26). -/
theorem countGood_inHand {p : Port} {b : Token} {n : Nat} {s : State} (h : PoolRight s)
    (hphase : (s.rx.get p).phase = .body b n) : InHand b (countGood p b s) := by
  have hperm : (receivingTokens s).Perm (b :: receivingTokens (countGood p b s)) := by
    refine (receivingTokens_perm p s).trans ?_
    refine List.Perm.trans ?_ ((receivingTokens_setRx p _ s).symm.cons b)
    rw [hphase]
    exact List.Perm.refl _
  exact Ledger.received h hperm rfl rfl

theorem frameEnd_right {p : Port} {body : List Byte} {s : State} (h : PoolRight s) : PoolRight (frameEnd p body s) := by
  cases hphase : (s.rx.get p).phase with
  | body b n =>
    have hstored : PoolRight (setBytes b ((buffer b s).bytes ++ body.take n) s) := setBytes_sound _ h
    have hphase' : ((setBytes b ((buffer b s).bytes ++ body.take n) s).rx.get p).phase = .body b n := hphase
    simp only [frameEnd, hphase]
    generalize setBytes b ((buffer b s).bytes ++ body.take n) s = u at hstored hphase' ⊢
    split
    · exact (setPhase_keepsPool (by rw [hphase', phaseBuffer, phaseBuffer])).right hstored
    · split
      · exact classify_right p ((reportPortHeard_keepsPool p _).inHand (countGood_inHand hstored hphase'))
      · simp only [badFrame, countCheckError, setPhase, setRx_setRx]
        exact setRx_releaseBuffer_right hstored (by rw [hphase', phaseBuffer]) rfl
  | idle | header | discarding =>
    simp only [frameEnd, hphase]
    exact h

theorem quietTimerExpiry_right {p : Port} {s : State} (h : PoolRight s) : PoolRight (quietTimerExpiry p s) := by
  unfold quietTimerExpiry
  split
  · exact ((reportPortQuiet_keepsPool ..).after
      (setRx_keepsPool (r := { s.rx.get p with quiet := none }) rfl)).right h
  · exact h

/-! ## Transmissions -/

/-- The status frame in hand after a transmission of buffer `b` at port `p` (R45). -/
def handAfter (p : Port) (b : Token) (hand : Option Token) : Option Token :=
  if p = .cockpit ∧ hand = some b then none else hand

theorem settleSent_accounted {rs hs : List Token} {hand : Option Token} {p : Port} {b : Token} {s : State}
    (h : Accounted none [] rs hs hand s) (hb : (s.tx.get p).sending = some b) :
    Accounted (some p) [] rs hs (handAfter p b hand) (settleSent b s) := by
  cases hret : (buffer b s).retainer with
  | none =>
    simp only [settleSent, hret]
    exact releaseBuffer_accounted (Ledger.sentRelease h hb hret)
  | some d =>
    have hd := (h.tied.retainer b d).1 hret
    have hawait := (h.tied.awaiting d).1 (by simp [hd])
    simp only [settleSent, hret]
    rw [tellSlot_of_awaiting (s := setBufferState b .retained s) hawait hd]
    exact Ledger.sentRetain h hb hret hret rfl rfl

theorem statusSent_sound {rs hs : List Token} {p : Port} {b : Token} {s : State}
    (h : Accounted (some p) [] rs hs (handAfter p b s.monitor.statusInHand) s) :
    PoolSound (some p) [] rs hs (statusSent p b s) := by
  unfold handAfter at h
  unfold statusSent
  dsimp only
  split
  next hmine =>
    rw [if_pos hmine] at h
    split
    · exact (originateStatus_reacts _).poolSound (s := { s with monitor := { s.monitor with statusInHand := none } }) h
    · exact h
  next hother =>
    rw [if_neg hother] at h
    exact h

theorem idleAndPick_sound {rs hs : List Token} {p : Port} {s : State} (h : PoolSound (some p) [] rs hs s) :
    PoolSound none [] rs hs (idleAndPick p s) :=
  (pick_accounted (s := setTx p { s.tx.get p with sending := none } s) (Ledger.idle h rfl rfl rfl) (by simp)).poolSound
    (idleAndPick_traffic p s)

theorem settleSent_statusInHand (b : Token) (s : State) :
    (settleSent b s).monitor.statusInHand = s.monitor.statusInHand :=
  (settleSent_traffic b s).statusInHand

theorem transmissionComplete_right {p : Port} {s : State} (h : PoolRight s) : PoolRight (transmissionComplete p s) := by
  unfold transmissionComplete
  split
  next => exact h
  next b hb =>
    have hcounted : PoolRight (setTx p { s.tx.get p with sent := bump (s.tx.get p).sent } s) :=
      Ledger.setTx h rfl rfl rfl
    generalize hu : setTx p { s.tx.get p with sent := bump (s.tx.get p).sent } s = u at hcounted
    have hbu : (u.tx.get p).sending = some b := by
      rw [← hu]
      simpa using hb
    have hsettled := settleSent_accounted hcounted hbu
    rw [← settleSent_statusInHand b u] at hsettled
    exact (((settleSent_traffic b u).exchange.trans (statusSent_reaction p b _).exchange).trans
      (idleAndPick_traffic p _).exchange).poolRight (idleAndPick_sound (statusSent_sound hsettled))

end Sys2Proof.Machine
end

section
/-! PROOF. Every step keeps the ledger of the pool: requests, resets, time, and the walk over the commands. -/

namespace Sys2Proof.Machine

/-! ## Requests -/

/-- Stage, parameters and counters of the agent are not in the ledger. -/
theorem KeepsPool.of_agent {a : Agent} {s : State} (hrequests : a.requests = s.agent.requests)
    (hinHand : a.inHand = s.agent.inHand) (hpending : a.pendingCommit = s.agent.pendingCommit) :
    KeepsPool s { s with agent := a } :=
  .of_eq rfl (by simp only [heldTokens, hrequests, hinHand, hpending]) rfl rfl rfl rfl

theorem setStage_keepsPool (stage : Stage) (s : State) : KeepsPool s (setStage stage s) := .of_agent rfl rfl rfl

theorem setAgentCounters_keepsPool (f : AgentCounters → AgentCounters) (s : State) :
    KeepsPool s (setAgentCounters f s) := .of_agent rfl rfl rfl

theorem setSlot_keepsPool {d : Drive} {w : DriveSlot} {s : State} (hret : w.retained = (s.drives.get d).retained)
    (hstate : w.state = (s.drives.get d).state) (htimer : w.timer = (s.drives.get d).timer) :
    KeepsPool s (setSlot d w s) :=
  ⟨rfl, rfl, fun h => setSlot_sound h hret hstate (.inl htimer)⟩

theorem setTx_keepsPool {p : Port} {z : Transmitter} {s : State} (hprio : z.priority = (s.tx.get p).priority)
    (htransit : z.transit = (s.tx.get p).transit) (hsending : z.sending = (s.tx.get p).sending) :
    KeepsPool s (setTx p z s) :=
  ⟨rfl, rfl, fun h => Ledger.setTx h hprio htransit hsending⟩

theorem closeCommit_keepsPool (s : State) : KeepsPool s (closeCommit s) :=
  (setStage_keepsPool ..).trans (setAgentCounters_keepsPool ..)

theorem endOpenMode_keepsPool (s : State) : KeepsPool s (endOpenMode s) := by
  unfold endOpenMode
  split
  · dsimp only
    split <;> exact .of_eq rfl rfl rfl rfl rfl rfl
  · exact .refl s

theorem applyStream_keepsPool (es : List (Fin 24 × StreamEntry)) (s : State) : KeepsPool s (applyStream es s) := by
  have hclosed (v : Vector StreamEntry 24) :
      KeepsPool s (closeCommit { s with classifier := { s.classifier with table := v } }) :=
    (closeCommit_keepsPool _).after (.of_eq rfl rfl rfl rfl rfl rfl)
  unfold applyStream
  dsimp only
  split
  · exact (hclosed _).trans (endOpenMode_keepsPool _)
  · exact hclosed _

theorem reportRoles_keepsPool (old : Vector ChannelEntry 16) (s : State) : KeepsPool s (reportRoles old s) := by
  have hrole (r : Role) (s : State) : KeepsPool s (reportRole old r s) := by
    unfold reportRole
    split
    · exact .refl s
    · exact reportStaleOf_keepsPool ..
  have hall (l : List Role) (s : State) : KeepsPool s (l.foldl (fun s r => reportRole old r s) s) := by
    induction l generalizing s with
    | nil => exact .refl s
    | cons r rest ih => exact (hrole r s).trans (ih _)
  exact hall requiredRoles s

theorem applyChannel_keepsPool (es : List (Fin 16 × ChannelEntry)) (s : State) : KeepsPool s (applyChannel es s) := by
  have hclosed (x : Channels) : KeepsPool s (closeCommit { s with channels := x }) :=
    (closeCommit_keepsPool _).after (.of_eq rfl rfl rfl rfl rfl rfl)
  exact (hclosed _).trans (reportRoles_keepsPool ..)

theorem restartOwners_keepsPool (s : State) : KeepsPool s (restartOwners s) := by
  have hforgiven (d : Drive) (s : State) : KeepsPool s (forgiveMisses d s) := setSlot_keepsPool rfl rfl rfl
  have hquiet (p : Port) (s : State) : KeepsPool s (restartQuiet p s) := setRx_keepsPool rfl
  have htimed (m : Timer) (s : State) : KeepsPool s { s with monitor := { s.monitor with interval := m } } :=
    .of_monitor rfl
  exact ((((hforgiven .tilt s).trans (hforgiven .steer _)).trans (hquiet .cockpit _)).trans (hquiet .chassis _)).trans
    (htimed _ _)

theorem applyParam_keepsPool (es : List (Fin 44 × Word)) (s : State) : KeepsPool s (applyParam es s) := by
  have hparams (v : Vector Word 44) : KeepsPool s { s with agent := { s.agent with params := v } } :=
    .of_agent rfl rfl rfl
  have hmuted (u : State) : KeepsPool u (resetMutedKinds u) := .of_monitor rfl
  exact ((((hparams _).trans (closeCommit_keepsPool _)).trans (restartOwners_keepsPool _)).trans (hmuted _)).trans
    (settleFaults_keepsPool ..)

theorem applyEnvelope_keepsPool (es : List (Fin 12 × EnvelopeRow)) (s : State) : KeepsPool s (applyEnvelope es s) :=
  .of_eq rfl rfl rfl rfl rfl rfl

theorem finishEnvelope_right {es : List (Fin 12 × EnvelopeRow)} {s : State} (hpending : s.agent.pendingCommit = none)
    (h : PoolRight s) : PoolRight (finishEnvelope es s) := by
  unfold finishEnvelope
  split
  · exact answer_right _ _ ((applyEnvelope_keepsPool es s).right h)
  · exact holdCommit_right hpending h

theorem judgeCommit_right {sum check : Word} {valid refused : Bool} {finish : State → State} {s : State}
    (h : PoolRight s) (hfinish : PoolRight (finish s)) : PoolRight (judgeCommit sum check valid refused finish s) := by
  unfold judgeCommit
  split
  · exact answer_right _ _ (((setStage_keepsPool ..).trans (setAgentCounters_keepsPool ..)).right h)
  · split
    · exact answer_right _ _ ((setStage_keepsPool ..).right h)
    · split
      · exact answer_right _ _ h
      · exact hfinish

theorem commitStage_right {stage : Stage} {check : Word} {s : State} (hpending : s.agent.pendingCommit = none)
    (h : PoolRight s) : PoolRight (commitStage stage check s) := by
  cases stage with
  | empty => exact answer_right _ _ h
  | stream es => exact judgeCommit_right h (answer_right _ _ ((applyStream_keepsPool es s).right h))
  | channel es => exact judgeCommit_right h (answer_right _ _ ((applyChannel_keepsPool es s).right h))
  | envelope es => exact judgeCommit_right h (finishEnvelope_right hpending h)
  | param es => exact judgeCommit_right h (answer_right _ _ ((applyParam_keepsPool es s).right h))

theorem commit_right (payload : List Byte) {s : State} (h : PoolRight s) : PoolRight (commit payload s) := by
  unfold commit
  split
  · exact answer_right _ _ h
  next hnone =>
    have hpending := pendingCommit_eq_none hnone
    split
    · exact answer_right _ _ h
    · split
      · exact answer_right _ _ h
      · split
        · exact commitStage_right hpending h
        · exact answer_right _ _ h

theorem stageEntry_right (payload : List Byte) {s : State} (h : PoolRight s) : PoolRight (stageEntry payload s) := by
  unfold stageEntry
  split
  · exact answer_right _ _ h
  · split
    · exact answer_right _ _ h
    · split
      · exact answer_right _ _ h
      · exact answer_right _ _ ((setStage_keepsPool ..).right h)

theorem discardStage_right (payload : List Byte) {s : State} (h : PoolRight s) : PoolRight (discardStage payload s) := by
  unfold discardStage
  split
  · exact answer_right _ _ h
  · exact answer_right _ _ ((setStage_keepsPool ..).right h)

theorem malformedRequest_right {s : State} (h : PoolRight s) : PoolRight (malformedRequest s) := by
  unfold malformedRequest
  split
  · exact h
  · split
    · exact answer_right _ _ h
    · exact h

theorem readState_right (payload : List Byte) {s : State} (h : PoolRight s) : PoolRight (readState payload s) :=
  answer_right .done (stateRecord s) h

theorem readEntry_right (payload : List Byte) {s : State} (h : PoolRight s) : PoolRight (readEntry payload s) := by
  unfold readEntry
  split
  · exact answer_right _ _ h
  · split <;> exact answer_right _ _ h

theorem readCounters_right (payload : List Byte) {s : State} (h : PoolRight s) : PoolRight (readCounters payload s) := by
  unfold readCounters
  split
  · exact answer_right _ _ h
  · split <;> exact answer_right _ _ h

theorem clearPort_keepsPool (p : Port) (s : State) : KeepsPool s (clearPort p s) := by
  have hreceiver : KeepsPool s (setRx p { s.rx.get p with good := 0, checkError := 0, long := 0, overrun := 0 } s) :=
    setRx_keepsPool rfl
  unfold clearPort
  exact hreceiver.trans (setTx_keepsPool (by simp) (by simp) (by simp))

theorem clearGroup_keepsPool (g : CounterGroup) (s : State) : KeepsPool s (clearGroup g s) := by
  have hslot (d : Drive) (s : State) : KeepsPool s (clearSlotCounters d s) := setSlot_keepsPool rfl rfl rfl
  have hchannels (x : Channels) : KeepsPool s { s with channels := x } := .of_eq rfl rfl rfl rfl rfl rfl
  have hshaper (x : Shaper) (s : State) : KeepsPool s { s with shaper := x } := .of_eq rfl rfl rfl rfl rfl rfl
  cases g with
  | cockpitPort => exact clearPort_keepsPool ..
  | chassisPort => exact clearPort_keepsPool ..
  | stream => exact .of_eq rfl rfl rfl rfl rfl rfl
  | channel => exact hchannels _
  | lean => exact .of_control _ s.lock s
  | drive => exact ((hslot .tilt s).trans (hslot .steer _)).trans (hshaper _ _)
  | mgmt => exact setAgentCounters_keepsPool (fun _ => AgentCounters.zero) s

theorem clearCounters_right (payload : List Byte) {s : State} (h : PoolRight s) :
    PoolRight (clearCounters payload s) := by
  unfold clearCounters
  split
  · exact answer_right _ _ h
  · exact answer_right _ _ ((clearGroup_keepsPool ..).right h)

theorem clearTable_keepsPool (s : State) : KeepsPool s (clearTable s) := by
  have hcleared : KeepsPool s (clearLatches s) := .of_monitor rfl
  exact hcleared.trans (settleFaults_keepsPool ..)

theorem clearFaults_right (payload : List Byte) {s : State} (h : PoolRight s) : PoolRight (clearFaults payload s) :=
  answer_right _ _ ((((clearSlot_keepsPool .tilt s).trans (clearSlot_keepsPool .steer _)).trans
    (report_keepsPool .lockStuck false _)).trans (clearTable_keepsPool _) |>.right h)

theorem engageControl_right (payload : List Byte) {s : State} (h : PoolRight s) :
    PoolRight (engageControl payload s) := by
  unfold engageControl
  split
  · exact answer_right _ _ ((KeepsPool.of_control _ s.lock s).right h)
  · exact answer_right _ _ h

theorem releaseControl_right (payload : List Byte) {s : State} (h : PoolRight s) :
    PoolRight (releaseControl payload s) := by
  unfold releaseControl
  split
  · exact answer_right _ _ h
  · exact answer_right _ _ ((moveToRecover_reacts s).keepsPool.right h)
  all_goals exact answer_right _ _ h

/-! ## Resets -/

theorem stands_nil {bs : Vector Buffer 48} {st : BufferState} (h : ∀ t, (look bs t).state ≠ st) : Stands [] st bs :=
  fun t => by simp [h t]

theorem look_replicate_buffer (b : Token) : look (Vector.replicate 48 Buffer.empty) b = Buffer.empty := by
  simp [look]

/-- All buffers FREE, queues empty, slots IDLE: nothing to account for (R31, R38, R125). -/
theorem resetBlocks_right (r : ResetControl) (n : BitVec 6) (s : State) : PoolRight (resetBlocks r n s) := by
  have hempty (b : Token) : look (resetBlocks r n s).pool.buffers b = Buffer.empty := look_replicate_buffer b
  have hslot (d : Drive) : (resetBlocks r n s).drives.get d = DriveSlot.atReset := by cases d <;> rfl
  refine ⟨stands_nil ?_, stands_nil ?_, stands_nil ?_, stands_nil ?_, ⟨?_, ?_, ?_, ?_, ?_⟩, ?_, (fun _ h => nomatch h),
    (fun _ h => nomatch h)⟩
  · simp [hempty, Buffer.empty]
  · simp [hempty, Buffer.empty]
  · simp [hempty, Buffer.empty]
  · simp [hempty, Buffer.empty]
  · simp [hempty, hslot, Buffer.empty, DriveSlot.atReset]
  · simp [hempty, Buffer.empty]
  · simp [hempty, Buffer.empty]
  · simp [hslot, DriveSlot.atReset]
  · simp [hslot, DriveSlot.atReset]
  · exact fun _ ht => absurd ht List.not_mem_nil

theorem beginReset_right {k : ResetKind} {s : State} (h : PoolRight s) : PoolRight (beginReset k s) := by
  unfold beginReset
  split
  · exact h
  · exact (KeepsPool.of_monitor rfl).right (resetBlocks_right ..)

theorem endReset_right {k : ResetKind} {straps : BitVec 6} {low : Bool} {s : State} (h : PoolRight s) :
    PoolRight (endReset k straps low s) := by
  have hjudged (u : State) : KeepsPool u (judgeSupply low u) := by
    unfold judgeSupply
    split
    · exact (report_keepsPool ..).after (.of_monitor rfl)
    · exact .refl u
  unfold endReset
  dsimp only
  split
  · split
    · exact (KeepsPool.of_eq rfl rfl rfl rfl rfl rfl).right h
    · exact ((hjudged _).trans (originateStatus_reacts _).keepsPool).right (resetBlocks_right ..)
  · exact h

/-! ## Commands -/

theorem unlessReset_right {f : State → State} {s t : State} (h : PoolRight s) (hf : PoolRight (f s))
    (ht : unlessReset f s = .next t) : PoolRight t := by
  cases hreset : inReset s with
  | true =>
    rw [unlessReset_of_inReset f hreset] at ht
    cases ht
    exact h
  | false =>
    rw [unlessReset_of_not_inReset f hreset] at ht
    cases ht
    exact hf

theorem resetRequest_right (payload : List Byte) {s : State} (h : PoolRight s) : PoolRight (resetRequest payload s) := by
  unfold resetRequest
  split
  · exact answer_right _ _ h
  · exact beginReset_right h

/-- Every command keeps the ledger right. -/
theorem exec_right {c : Instr} {s t : State} (h : PoolRight s) (ht : exec c s = .next t) : PoolRight t := by
  cases c with
  | frameStart p => exact unlessReset_right h (frameStart_right h) ht
  | headerComplete p b0 b1 b2 b3 => exact unlessReset_right h (headerComplete_right h) ht
  | discardEnd p => exact unlessReset_right h (discardEnd_right h) ht
  | frameEnd p body => exact unlessReset_right h (frameEnd_right h) ht
  | lineFault p => exact unlessReset_right h (cutFrame_right h) ht
  | quietTimerExpiry p => exact unlessReset_right h (quietTimerExpiry_right h) ht
  | freshnessTimerExpiry c => exact unlessReset_right h ((freshnessTimerExpiry_keepsPool c s).right h) ht
  | transmissionComplete p => exact unlessReset_right h (transmissionComplete_right h) ht
  | cycleTimerExpiry => exact unlessReset_right h ((cycleTimerExpiry_keepsPool s).right h) ht
  | cycleCompletion => exact unlessReset_right h (cycleCompletion_right h) ht
  | releaseQualifyExpiry => exact unlessReset_right h ((releaseQualifyExpiry_keepsPool s).right h) ht
  | confirmExpiryReleasing => exact unlessReset_right h ((confirmExpiryReleasing_keepsPool s).right h) ht
  | engageQualifyExpiry => exact unlessReset_right h ((engageQualifyExpiry_keepsPool s).right h) ht
  | confirmExpiryEngaging => exact unlessReset_right h ((confirmExpiryEngaging_keepsPool s).right h) ht
  | ackTimerExpiry d => exact unlessReset_right h ((ackTimerExpiry_keepsPool d s).right h) ht
  | statusClaimRetry => exact unlessReset_right h ((statusClaimRetry_keepsPool s).right h) ht
  | statusIntervalExpiry => exact unlessReset_right h ((statusIntervalExpiry_keepsPool s).right h) ht
  | supplyLow => exact unlessReset_right h ((supplyFell_keepsPool s).right h) ht
  | supplyRestored => exact unlessReset_right h ((supplyRose_keepsPool s).right h) ht
  | powerOnReset => cases ht; exact beginReset_right h
  | powerOnResetEnd straps low => cases ht; exact endReset_right h
  | pinReset => cases ht; exact beginReset_right h
  | pinResetEnd straps low => cases ht; exact endReset_right h
  | managementResetEnd straps low => cases ht; exact endReset_right h
  | malformedRequest => exact unlessReset_right h (malformedRequest_right h) ht
  | readState => exact unlessReset_right h (completeRequest_right (fun _ => readState_right _) h) ht
  | readEntry => exact unlessReset_right h (completeRequest_right (fun _ => readEntry_right _) h) ht
  | stageEntry => exact unlessReset_right h (completeRequest_right (fun _ => stageEntry_right _) h) ht
  | discardStage => exact unlessReset_right h (completeRequest_right (fun _ => discardStage_right _) h) ht
  | commit => exact unlessReset_right h (completeRequest_right (fun _ => commit_right _) h) ht
  | readCounters => exact unlessReset_right h (completeRequest_right (fun _ => readCounters_right _) h) ht
  | clearCounters => exact unlessReset_right h (completeRequest_right (fun _ => clearCounters_right _) h) ht
  | clearFaults => exact unlessReset_right h (completeRequest_right (fun _ => clearFaults_right _) h) ht
  | engageControl => exact unlessReset_right h (completeRequest_right (fun _ => engageControl_right _) h) ht
  | releaseControl => exact unlessReset_right h (completeRequest_right (fun _ => releaseControl_right _) h) ht
  | reset => exact unlessReset_right h (completeRequest_right (fun _ => resetRequest_right _) h) ht

/-! ## Time -/

/-- A running timer runs on and a stopped one stays stopped as time passes. -/
theorem tickTimers_right {s : State} (h : PoolRight s) : PoolRight (tickTimers s) := by
  have hslot (d : Drive) : (tickTimers s).drives.get d =
      { s.drives.get d with timer := tickTimer (s.drives.get d).timer } := by cases d <;> rfl
  have hruns (x : Timer) (hx : tickTimer x ≠ none) : x ≠ none := fun hnone => hx (by rw [hnone]; rfl)
  have htied : Tied [] s.pool.buffers (tickTimers s).drives := by
    refine ⟨fun t d => ?_, h.tied.places, h.tied.retained, fun d => ?_, fun d hd => ?_⟩
    · rw [hslot]
      exact h.tied.retainer t d
    · rw [hslot]
      exact h.tied.awaiting d
    · rw [hslot] at hd ⊢
      exact h.tied.timer d (hruns _ hd)
  exact { h with tied := htied }

theorem tick_right {s : State} (h : PoolRight s) : PoolRight (tick s) := by
  have hraised (events : List Instr) (u : State) (hu : PoolRight u) : PoolRight (raiseEvents events u) := hu
  unfold tick
  split
  · exact h
  · split
    · exact h
    · exact hraised _ _ (tickTimers_right (s := { s with now := s.now + 1 }) h)

theorem step_right {s t : State} (h : PoolRight s) (ht : step s = .next t) : PoolRight t := by
  unfold step at ht
  split at ht
  next =>
    cases ht
    exact tick_right h
  next c rest _ => exact exec_right (s := { s with pending := rest }) h ht

/-! ## The obligation -/

/-- Settles O59: the ledger of the pool says what the three statements say, and every command and the passing of time
keep it. -/
theorem everyStepKeepsThePoolAccounted : Obligations.EveryStepKeepsThePoolAccounted := by
  intro s t hpool hretainers hstatus h
  exact (poolSound_iff t).1 (step_right ((poolSound_iff s).2 ⟨hpool, hretainers, hstatus⟩) h)

end Sys2Proof.Machine
end

section
/-! PROOF. Resets (R177, R169, R143) and the passing of time (00_scope.md section 5.6). -/

namespace Sys2Proof.Machine

/-! ## Held resets -/

theorem exec_endCommand (k : ResetKind) (straps : BitVec 6) (low : Bool) (s : State) :
    exec (endCommand k straps low) s = .next (endReset k straps low s) := by
  cases k <;> rfl

/-- Any command but the beginning or end of a reset waits for the end of a reset (R177). -/
theorem exec_of_inReset {c : Instr} {s : State} (hreset : inReset s = true) (hc : isResetCommand c = false) :
    exec c s = .next s := by
  cases c with
  | powerOnReset | powerOnResetEnd | pinReset | pinResetEnd | managementResetEnd => cases hc
  | frameStart | headerComplete | discardEnd | frameEnd | lineFault | quietTimerExpiry | freshnessTimerExpiry
  | transmissionComplete | cycleTimerExpiry | cycleCompletion | releaseQualifyExpiry | confirmExpiryReleasing
  | engageQualifyExpiry | confirmExpiryEngaging | ackTimerExpiry | statusClaimRetry | statusIntervalExpiry
  | supplyLow | supplyRestored | malformedRequest | readState | readEntry | stageEntry | discardStage | commit
  | readCounters | clearCounters | clearFaults | engageControl | releaseControl | reset =>
    exact unlessReset_of_inReset _ hreset

theorem inReset_setHeld_false {k j : ResetKind} {s : State} (hjk : j ≠ k) (hj : resetHeld j s.resets = true) :
    inReset { s with resets := setHeld k false s.resets } = true := by
  cases k <;> cases j <;> simp_all [resetHeld, inReset, setHeld]

theorem endReset_of_others_held {k j : ResetKind} {straps : BitVec 6} {low : Bool} {s : State}
    (hk : resetHeld k s.resets = true) (hjk : j ≠ k) (hj : resetHeld j s.resets = true) :
    endReset k straps low s = { s with resets := setHeld k false s.resets } := by
  simp only [endReset, hk, if_true, inReset_setHeld_false hjk hj]

/-- Settles O4: every command but those of the resets has its effect outside reset only, and the end of one reset with
another held changes the reset controls alone. -/
theorem heldResetTakesNothing : Obligations.HeldResetTakesNothing := by
  refine ⟨fun c s => exec_of_inReset, fun k j straps low s hk hjk hj => ?_⟩
  exact ⟨_, exec_endCommand k straps low s, by rw [endReset_of_others_held hk hjk hj]; exact inReset_setHeld_false hjk hj,
    endReset_of_others_held hk hjk hj⟩

/-! ## The beginning of a reset -/

theorem buffer_resetBlocks (b : Token) (r : ResetControl) (n : BitVec 6) (s : State) :
    buffer b (resetBlocks r n s) = Buffer.empty := look_replicate_buffer b

/-- The blocks that neither supply judgement nor status frame touches stand at their reset values. -/
theorem resetBlocks_atReset (r : ResetControl) (n : BitVec 6) (s : State) : BlocksAtReset (resetBlocks r n s) where
  receivers p := by cases p <;> rfl
  stream _ := look_replicate ..
  openMode := rfl
  streamCounters := ⟨fun _ => look_replicate .., rfl, rfl⟩
  channel _ := ⟨look_replicate .., look_replicate ..⟩
  rows _ := look_replicate ..
  invalid := rfl
  lean := rfl
  shaper := rfl
  slots d := by cases d <;> rfl
  lock := rfl
  agent := rfl
  quietPorts := rfl
  releaseNotice := rfl

theorem beginReset_heldAtReset {k : ResetKind} {s : State} (h : resetHeld k s.resets = false) :
    HeldAtReset k s (beginReset k s) := by
  rw [beginReset_of_not_held h]
  have hblocks := resetBlocks_atReset { setHeld k true s.resets with lastBegun := k } s.node s
  exact
    { receivers := hblocks.receivers, stream := hblocks.stream, openMode := rfl
      streamCounters := hblocks.streamCounters, channel := hblocks.channel, rows := hblocks.rows, invalid := rfl
      lean := rfl, shaper := rfl, slots := hblocks.slots, lock := rfl, agent := rfl, quietPorts := rfl
      releaseNotice := rfl, held := rfl, node := rfl, alert := rfl
      pool := fun b => buffer_resetBlocks b { setHeld k true s.resets with lastBegun := k } s.node s
      silent := fun p => by cases p <;> rfl
      faults := fun f => faultRecord_resetBlocks f { setHeld k true s.resets with lastBegun := k } s.node s
      statusSeq := rfl, interval := rfl, statusInHand := rfl }

/-- A request in hand that is as long as its code needs is executed (R183, R200). -/
theorem completeRequest_of_long {code : RequestCode} {execute : List Byte → State → State} {payload : List Byte}
    {s : State} (hin : requestInHand code s = some payload) (hlen : neededLength code payload ≤ payload.length) :
    completeRequest code execute s = execute payload s := by
  simp only [completeRequest, hin, Nat.not_lt.2 hlen, if_false]

/-- A request in hand has its code, and so a tag and a code. -/
theorem two_le_of_requestInHand {code : RequestCode} {payload : List Byte} {s : State}
    (hin : requestInHand code s = some payload) : requestCode payload = some code ∧ 2 ≤ payload.length := by
  unfold requestInHand at hin
  split at hin
  · cases hin
  · dsimp only at hin
    split at hin
    next hcode =>
      cases hin
      refine ⟨hcode, ?_⟩
      unfold requestCode at hcode
      split at hcode
      · assumption
      · cases hcode
    next => cases hin

/-- Settles O5: by the value that every block takes, for each of the three beginnings. -/
theorem resetsBeginAtResetValues : Obligations.ResetsBeginAtResetValues := by
  intro s
  refine ⟨fun h => ⟨_, rfl, beginReset_heldAtReset h⟩, fun h => ⟨_, rfl, beginReset_heldAtReset h⟩,
    fun payload hreset hin hmode => ⟨_, unlessReset_of_not_inReset _ hreset, ?_⟩⟩
  have hfree : resetHeld .management s.resets = false := by
    simp only [inReset, Bool.or_eq_false_iff] at hreset
    exact hreset.2
  rw [completeRequest_of_long hin (two_le_of_requestInHand hin).2]
  simp only [resetRequest, hmode, Bool.false_eq_true, if_false]
  exact beginReset_heldAtReset hfree

/-! ## The state after reset -/

/-- The ledger of the state after reset: buffer 0 has gone from FREE to SENDING. -/
theorem poolRight_reset : PoolRight State.reset := by
  have h := resetBlocks_right State.reset.resets State.reset.node State.reset
  have hfree : (look (resetBlocks State.reset.resets State.reset.node State.reset).pool.buffers 0).state = .free :=
    congrArg Buffer.state (look_replicate_buffer 0)
  have hnone := h.idle_retainer (.inl hfree)
  refine ⟨h.receiving.stay ?_, h.held.stay ?_, h.queued.stay ?_, h.sending.enter ?_ rfl (List.Perm.refl _),
    h.tied.moveFree hnone rfl (by simp) fun _ => .inr, fun _ ht => absurd ht List.not_mem_nil, (fun _ h => nomatch h),
    fun t ht => ?_⟩
  · simp [hfree]
  · simp [hfree]
  · simp [hfree]
  · simp [hfree]
  · cases ht
    exact ⟨.inr rfl, congrArg Buffer.retainer (look_put_same ..)⟩

/-- Settles O60: the state after reset has the reset values in all but the status frame, which the ledger accounts
for. -/
theorem resetHasWhatEveryStepKeeps : Obligations.ResetHasWhatEveryStepKeeps := by
  obtain ⟨halert, hclean, hlatched, hlock, htables, hstage⟩ :=
    resetBlocks_sound State.reset.resets State.reset.node State.reset
  obtain ⟨hline, hmode⟩ := hlock
  obtain ⟨hchecks, henvelope, hbridge⟩ := htables
  obtain ⟨hlegal, hparams, hmisses⟩ := hstage
  have hfaults : State.reset.monitor.faults
      = (resetBlocks State.reset.resets State.reset.node State.reset).monitor.faults := rfl
  have hright : AlertRight State.reset := by
    refine AlertFollows.right ?_ rfl
    have hsame := alertWanted_congr (s := resetBlocks State.reset.resets State.reset.node State.reset)
      (t := State.reset) rfl fun _ => rfl
    exact halert.trans hsame.symm
  exact ⟨hline, hright, fun h => (nomatch h), hlatched.of_faults hfaults, hmode, hchecks, henvelope, hbridge, hlegal,
    hparams, hmisses, (poolSound_iff State.reset).1 poolRight_reset⟩

/-! ## Time -/

theorem insertAt_perm (n : Nat) (c : Instr) (cs : List Instr) : (insertAt n c cs).Perm (c :: cs) := by
  refine List.perm_middle.trans ?_
  rw [List.take_append_drop]

/-- A free order holds the same commands (notes/assumptions/3.md). -/
theorem freeOrder_perm (k : Nat) (cs : List Instr) : (freeOrder k cs).Perm cs := by
  induction cs generalizing k with
  | nil => exact List.Perm.refl _
  | cons c rest ih =>
    cases rest with
    | nil => exact List.Perm.refl _
    | cons d rest =>
      rw [freeOrder]
      exact (insertAt_perm ..).trans ((ih (k + 1)).cons c)

theorem tickTimer_eq_map (x : Timer) : tickTimer x = x.map (· - 1) := by
  cases x <;> rfl

theorem tick_of_idle {s : State} (hreset : inReset s = false) (hdue : s.monitor.retryDue = false) :
    tick s = raiseEvents (dueEvents (tickTimers { s with now := s.now + 1 })) (tickTimers { s with now := s.now + 1 }) := by
  simp [tick, hreset, hdue]

/-- The events due do not depend on the queue or the free values used. -/
theorem dueEvents_raiseEvents (events : List Instr) (s : State) : dueEvents (raiseEvents events s) = dueEvents s := rfl

/-- Settles O3: the timers count down as `tickTimers` says, and a free order of the due events is those events. -/
theorem idleStepLetsTimePass : Obligations.IdleStepLetsTimePass := by
  intro s hempty hreset hdue
  have hstep : step s = .next (tick s) := by
    rw [step, hempty]
  refine ⟨tick s, hstep, ?_⟩
  rw [tick_of_idle hreset hdue]
  refine ⟨rfl, fun p => ?_, fun c => ?_, fun d => ?_, tickTimer_eq_map _, tickTimer_eq_map _, tickTimer_eq_map _,
    tickTimer_eq_map _, tickTimer_eq_map _, ?_⟩
  · rw [← tickTimer_eq_map]
    cases p <;> rfl
  · rw [← tickTimer_eq_map]
    simp [raiseEvents, tickTimers, look]
  · rw [← tickTimer_eq_map]
    cases d <;> rfl
  · rw [dueEvents_raiseEvents]
    exact freeOrder_perm ..

end Sys2Proof.Machine
end

section
/-! PROOF. What a report leaves of each record and of status-wanted (R162, R165, R166, R170, R171, R33). -/

namespace Sys2Proof.Machine

/-! ## Records of the two kinds that are reported along -/

/-- A kind as a report of it inactive leaves it, when nothing that follows changes its record. -/
theorem takenRecord_false_of_inactive {n : Nat} {r : FaultRecord} (h : n = 0 ∨ r.active = false) :
    takenRecord n false r = r := by
  unfold takenRecord
  split
  · rfl
  next hn =>
    have hr := h.resolve_left hn
    rw [if_neg Bool.false_ne_true, ← hr]

theorem takenRecord_false_of_active {n : Nat} {r : FaultRecord} (hn : n ≠ 0) :
    takenRecord n false r = { r with active := false } := by
  simp [takenRecord, hn]

theorem takenRecord_true_of_inactive {n : Nat} {r : FaultRecord} (hn : n ≠ 0) (h : r.active = false) :
    takenRecord n true r = risen r := by
  simp [takenRecord, hn, h, risen]

theorem takenRecord_true_of_active {n : Nat} {r : FaultRecord} (h : n = 0 ∨ r.active = true) :
    takenRecord n true r = r := by
  rcases h with h | h <;> simp [takenRecord, h]

section records
variable {want : State → State} {j k : FaultKind} {s : State}

/-- A report of `k` inactive where it makes a change (R162). -/
theorem takeInactive_of_change (hsev : severity k s ≠ 0) (hactive : (faultRecord k s).active = true) :
    takeInactive want k s =
      if inStatusMask k s then want (putFault k { faultRecord k s with active := false } s)
      else putFault k { faultRecord k s with active := false } s := by
  simp [takeInactive, hsev, hactive]

theorem takeInactive_of_no_change (h : severity k s = 0 ∨ (faultRecord k s).active = false) :
    takeInactive want k s = s := if_pos h

/-- A report of `k` active where it makes a change (R162). -/
theorem takeActive_of_change (hsev : severity k s ≠ 0) (hactive : (faultRecord k s).active = false) :
    takeActive want k s =
      judgeAlert
        (if inStatusMask k s then want (react want k (putFault k (risen (faultRecord k s)) s))
        else react want k (putFault k (risen (faultRecord k s)) s)) := by
  simp [takeActive, hsev, hactive, risen]

theorem takeActive_of_no_change (h : severity k s = 0 ∨ (faultRecord k s).active = true) :
    takeActive want k s = s := if_pos h

/-- The records after a report of `k` inactive, when its wish for a status frame leaves them. -/
theorem takeInactive_record
    (hw : faultRecord j (want (putFault k { faultRecord k s with active := false } s))
      = faultRecord j (putFault k { faultRecord k s with active := false } s)) :
    faultRecord j (takeInactive want k s) =
      if k = j then takenRecord (severity k s) false (faultRecord k s) else faultRecord j s := by
  by_cases hchange : severity k s = 0 ∨ (faultRecord k s).active = false
  · rw [takeInactive_of_no_change hchange, takenRecord_false_of_inactive hchange]
    split
    next heq => rw [heq]
    next => rfl
  · obtain ⟨hsev, hactive⟩ := not_or.1 hchange
    rw [takeInactive_of_change hsev (by simpa using hactive), takenRecord_false_of_active hsev,
      ← faultRecord_putFault]
    split
    · exact hw
    · rfl

/-- The lean law in RECOVER, before EXCURSION is reported and the lock told (R88). -/
def recovering (s : State) : State := { s with lean := { s.lean with mode := .recover } }

theorem leaveActive_of_active (h : s.lean.mode = .active) :
    leaveActive want s = lockModeLeft (takeInactive want .excursion (recovering s)) := by
  simp only [leaveActive, h]
  rfl

theorem leaveActive_of_not_active (h : s.lean.mode ≠ .active) : leaveActive want s = s := by
  cases hmode : s.lean.mode with
  | active => exact absurd hmode h
  | bridge | standby | recover => simp [leaveActive, hmode]

/-- The records after the move to RECOVER, when the wish for a status frame leaves them (R88). -/
theorem leaveActive_record
    (hw : ∀ u : State, u.lean.mode = .recover → u.pool = s.pool →
      (∀ i, i ≠ .excursion → faultRecord i u = faultRecord i s) → faultRecord j (want u) = faultRecord j u) :
    faultRecord j (leaveActive want s) =
      if FaultKind.excursion = j ∧ s.lean.mode = .active then
        takenRecord (severity .excursion s) false (faultRecord .excursion s)
      else faultRecord j s := by
  by_cases hmode : s.lean.mode = .active
  · have htold : faultRecord j (leaveActive want s) = faultRecord j (takeInactive want .excursion (recovering s)) := by
      rw [leaveActive_of_active hmode]
      exact faultRecord_of_faults (by rw [lockModeLeft_monitor]) j
    have hothers (i : FaultKind) (hi : i ≠ .excursion) : faultRecord i (putFault .excursion
        { faultRecord .excursion (recovering s) with active := false } (recovering s)) = faultRecord i s := by
      rw [faultRecord_putFault, if_neg hi.symm]
      rfl
    rw [htold, takeInactive_record (k := .excursion) (s := recovering s) (hw _ rfl rfl hothers)]
    simp only [hmode, and_true]
    rfl
  · rw [leaveActive_of_not_active hmode, if_neg fun h => hmode h.2]

theorem react_of_mild (h : severity k s ≤ 1) : react want k s = s := by
  have h2 : ¬2 ≤ severity k s := by omega
  have h3 : ¬3 ≤ severity k s := by omega
  simp only [react, h2, h3, if_false]

/-- The records after the severity reactions, when the wish for a status frame leaves them (R165, R166). -/
theorem react_record
    (hw : ∀ u : State, u.lean.mode = .recover → u.pool = s.pool →
      (∀ i, i ≠ .excursion → faultRecord i u = faultRecord i s) → faultRecord j (want u) = faultRecord j u) :
    faultRecord j (react want k s) =
      if FaultKind.excursion = j ∧ s.lean.mode = .active ∧ 2 ≤ severity k s then
        takenRecord (severity .excursion s) false (faultRecord .excursion s)
      else faultRecord j s := by
  by_cases hgrave : 2 ≤ severity k s
  · have htold : ∃ x, (if 3 ≤ severity k s then lockInhibit s else s) = { s with lock := x } := by
      split
      · exact ⟨_, lockInhibit_eq s⟩
      · exact ⟨s.lock, rfl⟩
    obtain ⟨x, hx⟩ := htold
    have hreact : react want k s = leaveActive want { s with lock := x } := by
      simp only [react, hgrave, if_true, hx]
    rw [hreact, leaveActive_record (s := { s with lock := x }) hw]
    simp only [hgrave, and_true]
    rfl
  · rw [react_of_mild (by omega), if_neg fun h => hgrave h.2.2]

end records

/-! ## Reports that find status-wanted set -/

/-- A report of `k` inactive that finds status-wanted set changes the record of `k` alone. -/
theorem takeInactive_setWanted_record (j k : FaultKind) (s : State) :
    faultRecord j (takeInactive setWanted k s) =
      if k = j then takenRecord (severity k s) false (faultRecord k s) else faultRecord j s :=
  takeInactive_record rfl

/-- A report of POOL_EXHAUSTED active that finds status-wanted set: its own record, and that of EXCURSION on leaving
ACTIVE. -/
theorem takeActive_setWanted_pool (s : State) :
    faultRecord .poolExhausted (takeActive setWanted .poolExhausted s) =
      takenRecord (severity .poolExhausted s) true (faultRecord .poolExhausted s) := by
  by_cases hchange : severity .poolExhausted s = 0 ∨ (faultRecord .poolExhausted s).active = true
  · rw [takeActive_of_no_change hchange, takenRecord_true_of_active hchange]
  · obtain ⟨hsev, hactive⟩ := not_or.1 hchange
    have hinactive : (faultRecord .poolExhausted s).active = false := by simpa using hactive
    rw [takeActive_of_change hsev hinactive, takenRecord_true_of_inactive hsev hinactive]
    have hreact := react_record (want := setWanted) (j := .poolExhausted) (k := .poolExhausted)
      (s := putFault .poolExhausted (risen (faultRecord .poolExhausted s)) s) fun _ _ _ _ => rfl
    rw [if_neg (by simp), faultRecord_putFault_same] at hreact
    refine Eq.trans ?_ hreact
    split <;> rfl

/-- EXCURSION is not reported when ACTIVE is not left, and not changed when it is inactive already. -/
def ExcursionStays (s : State) : Prop :=
  s.lean.mode ≠ .active ∨ (faultRecord .excursion s).active = false ∨ severity .poolExhausted s ≤ 1

theorem takeActive_setWanted_excursion {s : State} (h : ExcursionStays s) :
    faultRecord .excursion (takeActive setWanted .poolExhausted s) = faultRecord .excursion s := by
  by_cases hchange : severity .poolExhausted s = 0 ∨ (faultRecord .poolExhausted s).active = true
  · rw [takeActive_of_no_change hchange]
  · obtain ⟨hsev, hactive⟩ := not_or.1 hchange
    rw [takeActive_of_change hsev (by simpa using hactive)]
    have hput : faultRecord .excursion (putFault .poolExhausted (risen (faultRecord .poolExhausted s)) s)
        = faultRecord .excursion s := by
      rw [faultRecord_putFault, if_neg (by simp)]
    have hreact := react_record (want := setWanted) (j := .excursion) (k := .poolExhausted)
      (s := putFault .poolExhausted (risen (faultRecord .poolExhausted s)) s) fun _ _ _ _ => rfl
    have hstays : faultRecord .excursion
        (react setWanted .poolExhausted (putFault .poolExhausted (risen (faultRecord .poolExhausted s)) s))
          = faultRecord .excursion s := by
      rw [hreact]
      split
      next hleaves =>
        obtain ⟨-, hmode, hgrave⟩ := hleaves
        have hgrave' : 2 ≤ severity .poolExhausted s := hgrave
        rw [hput]
        rcases h with h | h | h
        · exact absurd hmode h
        · exact takenRecord_false_of_inactive (.inr h)
        · omega
      next => exact hput
    refine Eq.trans ?_ hstays
    split <;> rfl

/-! ## The origination of a status frame -/

theorem originateStatus_of_free {s : State} {b : Token} (h : lowestFree s = some b) :
    originateStatus s = launchStatus b (takeInactive setWanted .poolExhausted (holdForOrigin b s)) := by
  simp [originateStatus, h, take]

theorem originateStatus_of_none {s : State} (h : lowestFree s = none) :
    originateStatus s =
      { takeActive setWanted .poolExhausted s with
        pool := { (takeActive setWanted .poolExhausted s).pool with releaseNotice := true } } := by
  simp [originateStatus, h, take]

/-- The record of POOL_EXHAUSTED that the claim of a status frame leaves (R33). -/
theorem originateStatus_pool (s : State) :
    faultRecord .poolExhausted (originateStatus s) =
      takenRecord (severity .poolExhausted s) (lowestFree s).isNone (faultRecord .poolExhausted s) := by
  cases hfree : lowestFree s with
  | some b =>
    rw [originateStatus_of_free hfree, faultRecord_of_faults (launchStatus_faults b _), takeInactive_setWanted_record,
      if_pos rfl]
    rfl
  | none =>
    rw [originateStatus_of_none hfree]
    exact takeActive_setWanted_pool s

theorem originateStatus_excursion {s : State} (h : ExcursionStays s) :
    faultRecord .excursion (originateStatus s) = faultRecord .excursion s := by
  cases hfree : lowestFree s with
  | some b =>
    rw [originateStatus_of_free hfree, faultRecord_of_faults (launchStatus_faults b _), takeInactive_setWanted_record,
      if_neg (by simp)]
    rfl
  | none =>
    rw [originateStatus_of_none hfree]
    exact takeActive_setWanted_excursion h

/-! ## Status-wanted set by a report -/

theorem wantStatus_of_wanted {s : State} (h : s.monitor.statusWanted = true) : wantStatus s = s := if_pos h

theorem wantStatus_of_inHand {s : State} (h : s.monitor.statusWanted = false) (hn : s.monitor.statusInHand ≠ none) :
    wantStatus s = setWanted s := by
  simp [wantStatus, h, hn]

theorem wantStatus_of_idle {s : State} (h : s.monitor.statusWanted = false) (hn : s.monitor.statusInHand = none) :
    wantStatus s = originateStatus (setWanted s) := by
  simp [wantStatus, h, hn]

theorem wantStatus_excursion {s : State} (h : ExcursionStays s) :
    faultRecord .excursion (wantStatus s) = faultRecord .excursion s := by
  cases hwanted : s.monitor.statusWanted with
  | true => rw [wantStatus_of_wanted hwanted]
  | false =>
    by_cases hhand : s.monitor.statusInHand = none
    · rw [wantStatus_of_idle hwanted hhand]
      exact originateStatus_excursion (s := setWanted s) h
    · rw [wantStatus_of_inHand hwanted hhand]
      rfl

/-- A wish for a status frame leaves every record but those of EXCURSION and POOL_EXHAUSTED, and EXCURSION's where it
is not reported. -/
theorem wantStatus_record {j : FaultKind} {s : State} (hj : j ≠ .poolExhausted) (h : j = .excursion → ExcursionStays s) :
    faultRecord j (wantStatus s) = faultRecord j s := by
  by_cases hexc : j = .excursion
  · subst hexc
    exact wantStatus_excursion (h rfl)
  · refine wantStatus_keepsOthers s j ?_
    simp [reportedAlong, hj, hexc]

/-- With a status frame wanted or in hand, or with what the claim reports reported already, the record of
POOL_EXHAUSTED stays. -/
theorem wantStatus_pool (s : State) :
    faultRecord .poolExhausted (wantStatus s) =
      if s.monitor.statusWanted = false ∧ s.monitor.statusInHand = none then
        takenRecord (severity .poolExhausted s) (lowestFree s).isNone (faultRecord .poolExhausted s)
      else faultRecord .poolExhausted s := by
  cases hwanted : s.monitor.statusWanted with
  | true => rw [wantStatus_of_wanted hwanted, if_neg (by simp)]
  | false =>
    by_cases hhand : s.monitor.statusInHand = none
    · rw [wantStatus_of_idle hwanted hhand, if_pos ⟨rfl, hhand⟩]
      exact originateStatus_pool (setWanted s)
    · rw [wantStatus_of_inHand hwanted hhand, if_neg fun h => hhand h.2]
      rfl

/-! ## Mode and lock -/

/-- Reports of severity 0 or 1 leave the lean law and the lock alone, POOL_EXHAUSTED along the way included. -/
theorem wantStatus_calm {s : State} (h : severity .poolExhausted s ≤ 1) :
    (wantStatus s).lean = s.lean ∧ (wantStatus s).lock = s.lock := by
  have hinactive (u : State) : (takeInactive setWanted .poolExhausted u).lean = u.lean
      ∧ (takeInactive setWanted .poolExhausted u).lock = u.lock := by
    unfold takeInactive
    dsimp only
    split
    · exact ⟨rfl, rfl⟩
    · split <;> exact ⟨rfl, rfl⟩
  have hactive (u : State) (hu : severity .poolExhausted u ≤ 1) : (takeActive setWanted .poolExhausted u).lean = u.lean
      ∧ (takeActive setWanted .poolExhausted u).lock = u.lock := by
    by_cases hchange : severity .poolExhausted u = 0 ∨ (faultRecord .poolExhausted u).active = true
    · rw [takeActive_of_no_change hchange]
      exact ⟨rfl, rfl⟩
    · obtain ⟨hsev, hact⟩ := not_or.1 hchange
      rw [takeActive_of_change hsev (by simpa using hact), react_of_mild (by exact hu)]
      split <;> exact ⟨rfl, rfl⟩
  cases hwanted : s.monitor.statusWanted with
  | true =>
    rw [wantStatus_of_wanted hwanted]
    exact ⟨rfl, rfl⟩
  | false =>
    by_cases hhand : s.monitor.statusInHand = none
    · rw [wantStatus_of_idle hwanted hhand]
      cases hfree : lowestFree (setWanted s) with
      | some b =>
        rw [originateStatus_of_free hfree, launchStatus_lean, launchStatus_lock]
        exact hinactive _
      | none =>
        rw [originateStatus_of_none hfree]
        exact hactive (setWanted s) h
    · rw [wantStatus_of_inHand hwanted hhand]
      exact ⟨rfl, rfl⟩

theorem report_calm {k : FaultKind} {s : State} (active : Bool) (hk : severity k s ≤ 1)
    (hpool : severity .poolExhausted s ≤ 1) :
    (report k active s).lean = s.lean ∧ (report k active s).lock = s.lock := by
  cases active with
  | false =>
    show (takeInactive wantStatus k s).lean = _ ∧ (takeInactive wantStatus k s).lock = _
    unfold takeInactive
    dsimp only
    split
    · exact ⟨rfl, rfl⟩
    · split
      · exact wantStatus_calm (s := putFault k _ s) hpool
      · exact ⟨rfl, rfl⟩
  | true =>
    show (takeActive wantStatus k s).lean = _ ∧ (takeActive wantStatus k s).lock = _
    by_cases hchange : severity k s = 0 ∨ (faultRecord k s).active = true
    · rw [takeActive_of_no_change hchange]
      exact ⟨rfl, rfl⟩
    · obtain ⟨hsev, hact⟩ := not_or.1 hchange
      rw [takeActive_of_change hsev (by simpa using hact), react_of_mild (by exact hk)]
      split
      · exact wantStatus_calm (s := putFault k _ s) hpool
      · exact ⟨rfl, rfl⟩

/-- A grave report that changes its kind leaves ACTIVE (R165). -/
theorem report_true_mode_ne_active {k : FaultKind} {s : State} (hgrave : 2 ≤ severity k s)
    (hactive : (faultRecord k s).active = false) : (report k true s).lean.mode ≠ .active := by
  show (takeActive wantStatus k s).lean.mode ≠ .active
  have hreact : (react wantStatus k (putFault k (risen (faultRecord k s)) s)).lean.mode ≠ .active :=
    react_mode_ne_active wantStatus_reacts hgrave
  rw [takeActive_of_change (by omega) hactive]
  split
  · exact (wantStatus_reacts _).mode_ne_active hreact
  · exact hreact

end Sys2Proof.Machine
end

section
/-! PROOF. Reports: records, mode and lock (R162, R165, R88), status-wanted (R170, R171), and what the owners of
conditions report (R58, R29, R91, R108, R144, R148, R153, R154, R175). -/

namespace Sys2Proof.Machine

/-- Settles O37: the tabled record by the law of reports, the rest by what a report touches. -/
theorem reportLeavesTheTabledRecord : Obligations.ReportLeavesTheTabledRecord := by
  intro k active s hk
  obtain ⟨hrecord, hothers⟩ := report_record k active s hk
  exact ⟨hrecord, hothers, report_reaction k active s⟩

/-! ## EXCURSION in reports -/

theorem report_true_of_change {k : FaultKind} {s : State} (hsev : severity k s ≠ 0)
    (hactive : (faultRecord k s).active = false) :
    report k true s =
      judgeAlert
        (if inStatusMask k s then wantStatus (react wantStatus k (putFault k (risen (faultRecord k s)) s))
        else react wantStatus k (putFault k (risen (faultRecord k s)) s)) :=
  takeActive_of_change hsev hactive

theorem report_of_no_change {k : FaultKind} {active : Bool} {s : State}
    (h : ¬(severity k s ≠ 0 ∧ (faultRecord k s).active ≠ active)) : report k active s = s := by
  have h' : severity k s = 0 ∨ (faultRecord k s).active = active := by
    by_cases h0 : severity k s = 0
    · exact .inl h0
    · exact .inr (Classical.not_not.1 fun hne => h ⟨h0, hne⟩)
  cases active with
  | true => exact takeActive_of_no_change h'
  | false => exact takeInactive_of_no_change h'

/-- A grave report that leaves ACTIVE reports EXCURSION inactive, itself when it is EXCURSION (R88). -/
theorem report_grave_excursion {k : FaultKind} {s : State} (hmode : s.lean.mode = .active) (hgrave : 2 ≤ severity k s)
    (hactive : (faultRecord k s).active = false) :
    faultRecord .excursion (report k true s) =
      takenRecord (severity .excursion s) false
        (if k = .excursion then risen (faultRecord k s) else faultRecord .excursion s) := by
  have hreact := react_record (want := wantStatus) (j := .excursion) (k := k)
    (s := putFault k (risen (faultRecord k s)) s) fun u hu _ _ => wantStatus_excursion (.inl (by simp [hu]))
  rw [if_pos ⟨rfl, hmode, hgrave⟩, faultRecord_putFault] at hreact
  have hleft : (react wantStatus k (putFault k (risen (faultRecord k s)) s)).lean.mode ≠ .active :=
    react_mode_ne_active wantStatus_reacts hgrave
  rw [report_true_of_change (by omega) hactive]
  refine Eq.trans ?_ hreact
  split
  · exact wantStatus_excursion (.inl hleft)
  · rfl

theorem Reacts.mode_of_ne_active {s t : State} (h : Reacts s t) (hs : s.lean.mode ≠ .active) :
    t.lean.mode = s.lean.mode :=
  h.mode.resolve_right fun ha => hs ha.1

/-- A move out of ACTIVE leaves the lock as its end leaves it (R150, R157). -/
theorem Reacts.lock_of_left {s t : State} (h : Reacts s t) (hlock : LockFollowsMode s)
    (hne : t.lean.mode ≠ s.lean.mode) : t.lock = lockAfterLeaving s.lock :=
  ((h.leavesOrStays hlock.qualify).resolve_left fun hstay => hne hstay.1).2.2

/-- Settles O38: a grave report of a kind that rises leaves ACTIVE; nothing enters it; a report of severity 1 reacts at
POOL_EXHAUSTED only. -/
theorem graveReportLeavesActive : Obligations.GraveReportLeavesActive := by
  intro k s _ hactive
  refine ⟨fun hgrave hmode => ?_, fun hmode => (report_reacts k true s).mode_of_ne_active hmode,
    fun hone hpool => by rw [(report_calm true (Nat.le_of_eq hone) hpool).1]⟩
  have hleft := report_true_mode_ne_active hgrave hactive
  have hrecover := ((report_reacts k true s).mode.resolve_left fun h => hleft (h.trans hmode)).2
  refine ⟨hrecover, fun hk => ?_, fun hlock => (report_reacts k true s).lock_of_left hlock (by simp [hrecover, hmode])⟩
  rw [report_grave_excursion hmode hgrave hactive, if_neg hk]

/-- The record of EXCURSION that a report of it inactive leaves (R108). -/
theorem report_excursion_false (s : State) :
    faultRecord .excursion (report .excursion false s) =
      takenRecord (severity .excursion s) false (faultRecord .excursion s) := by
  refine (takeInactive_record (want := wantStatus) (wantStatus_excursion (.inr (.inl ?_)))).trans (if_pos rfl)
  rw [faultRecord_putFault_same]

/-- A report of EXCURSION active that reacts on nothing (R165). -/
theorem report_excursion_mild {s : State} (hmild : severity .excursion s = 1) (hpool : severity .poolExhausted s ≤ 1) :
    faultRecord .excursion (report .excursion true s) = takenRecord 1 true (faultRecord .excursion s) := by
  cases hactive : (faultRecord .excursion s).active with
  | true =>
    rw [report_of_no_change (by simp [hactive]), takenRecord_true_of_active (.inr hactive)]
  | false =>
    rw [report_true_of_change (by simp [hmild]) hactive, takenRecord_true_of_inactive (by simp) hactive,
      react_of_mild (Nat.le_of_eq (by rw [ReactionOnly.severity (putFault_reaction ..), hmild]))]
    refine Eq.trans ?_ (faultRecord_putFault_same .excursion (risen (faultRecord .excursion s)) s)
    split
    · exact wantStatus_excursion (s := putFault .excursion _ s) (.inr (.inr hpool))
    · rfl

theorem judgeExcursion_of_beyond {c : Cycle} {s : State} (hstart : c.startMode = .active) (hmode : s.lean.mode = .active)
    (h : (excThresh s : Int) < magnitude c.error) :
    judgeExcursion c s =
      (let counted :=
        setLeanCounters (fun k => { k with excursionCycles := bump k.excursionCycles })
          { s with lean := { s.lean with excursionRun := bumpByte s.lean.excursionRun } }
      if excCount s ≤ (bumpByte s.lean.excursionRun).toNat then report .excursion true counted else counted) := by
  simp only [judgeExcursion, hstart, hmode, h, and_self, if_true]

theorem judgeExcursion_of_within {c : Cycle} {s : State} (hstart : c.startMode = .active) (hmode : s.lean.mode = .active)
    (h : magnitude c.error ≤ (excThresh s : Int)) :
    judgeExcursion c s = report .excursion false { s with lean := { s.lean with excursionRun := 0 } } := by
  simp only [judgeExcursion, hstart, hmode, Int.not_lt.2 h, and_self, if_true, if_false]

/-- Settles O25: the run is counted first, then EXCURSION reported; what the report leaves is told by its severity. -/
theorem excursionIsJudgedInActive : Obligations.ExcursionIsJudgedInActive := by
  intro c s t r run both
  refine ⟨fun hnot => if_neg hnot, fun ⟨hstart, hmode⟩ hbeyond => ?_, fun ⟨hstart, hmode⟩ hwithin => ?_⟩
  · have ht : t = _ := judgeExcursion_of_beyond hstart hmode hbeyond
    dsimp only at ht
    generalize hu : setLeanCounters (fun k => { k with excursionCycles := bump k.excursionCycles })
      { s with lean := { s.lean with excursionRun := bumpByte s.lean.excursionRun } } = u at ht
    have hlean : u.lean = { s.lean with
        excursionRun := run, counters := { s.lean.counters with excursionCycles := bump s.lean.counters.excursionCycles } } := by
      rw [← hu]
      rfl
    have hrec : faultRecord .excursion u = r := by
      rw [← hu]
      rfl
    have hsev (k : FaultKind) : severity k u = severity k s := by
      rw [← hu]
      rfl
    have hmode' : u.lean.mode = .active := by rw [hlean, hmode]
    have hcounted : t.lean = { u.lean with mode := t.lean.mode } := by
      rw [ht]
      split
      · exact (report_reaction .excursion true u).lean
      · rfl
    refine ⟨by rw [hcounted, hlean], by rw [hcounted, hlean], fun hfew => ?_, fun hmany hzero => ?_,
      fun hmany hone hpool => ?_, fun hmany hgrave hinactive => ?_⟩
    · rw [if_neg (Nat.not_le.2 hfew)] at ht
      rw [ht]
      exact ⟨hrec, hmode'⟩
    · rw [if_pos hmany] at ht
      rw [ht, report_of_no_change (by simp [hsev, hzero]), hrec]
    · rw [if_pos hmany] at ht
      rw [ht, report_excursion_mild (by rw [hsev, hone]) (by rw [hsev]; exact hpool), hrec,
        (report_calm true (Nat.le_of_eq (by rw [hsev, hone])) (by rw [hsev]; exact hpool)).1]
      exact ⟨rfl, hmode'⟩
    · rw [if_pos hmany] at ht
      have hgrave' : 2 ≤ severity .excursion u := by rwa [hsev]
      have hinactive' : (faultRecord .excursion u).active = false := by rwa [hrec]
      have hleft := report_true_mode_ne_active hgrave' hinactive'
      rw [ht, report_grave_excursion hmode' hgrave' hinactive', if_pos rfl, hrec,
        takenRecord_false_of_active (by omega)]
      exact ⟨rfl, ((report_reacts .excursion true u).mode.resolve_left fun h => hleft (h.trans hmode')).2⟩
  · have ht : t = _ := judgeExcursion_of_within hstart hmode hwithin
    have hlean := (report_reaction .excursion false { s with lean := { s.lean with excursionRun := 0 } }).lean
    rw [ht]
    refine ⟨by rw [hlean], by rw [hlean], ?_⟩
    exact report_excursion_false { s with lean := { s.lean with excursionRun := 0 } }

/-! ## Supply, freshness, quiet ports -/

/-- Settles O41: the watch is set first, then SUPPLY_LOW reported. -/
theorem supplyCrossingsAreReported : Obligations.SupplyCrossingsAreReported := by
  intro s hreset
  have hfell : exec .supplyLow s = .next (supplyFell s) := unlessReset_of_not_inReset _ hreset
  have hrose : exec .supplyRestored s = .next (supplyRose s) := unlessReset_of_not_inReset _ hreset
  refine ⟨fun hnormal => ?_, fun hlow => ?_⟩
  · have hreport : supplyFell s = report .supplyLow true { s with monitor := { s.monitor with supplyLow := true } } := by
      simp [supplyFell, hnormal]
    have hreaction := report_reaction .supplyLow true { s with monitor := { s.monitor with supplyLow := true } }
    refine ⟨⟨_, hfell, ?_⟩, by rw [hrose]; simp [supplyRose, hnormal]⟩
    rw [hreport]
    exact ⟨hreaction.supplyLow, (report_record .supplyLow true _ rfl).1, hreaction⟩
  · have hreport : supplyRose s = report .supplyLow false { s with monitor := { s.monitor with supplyLow := false } } := by
      simp [supplyRose, hlow]
    have hreaction := report_reaction .supplyLow false { s with monitor := { s.monitor with supplyLow := false } }
    refine ⟨⟨_, hrose, ?_⟩, by rw [hfell]; simp [supplyFell, hlow]⟩
    rw [hreport]
    exact ⟨hreaction.supplyLow, (report_record .supplyLow false _ rfl).1, hreaction⟩

theorem reportStaleOf_of_none {role : Role} (h : staleKind role = none) (active : Bool) (s : State) :
    reportStaleOf role active s = s := by
  simp [reportStaleOf, h]

/-- What a port's quiet report leaves of the qualifier and the record of LINK_QUIET (R163). -/
theorem reportPortQuiet_leaves (p : Port) (s : State) :
    (reportPortQuiet p s).monitor.quietPorts =
        (if severity .linkQuiet s = 0 then s.monitor.quietPorts else s.monitor.quietPorts.set p true)
      ∧ faultRecord .linkQuiet (reportPortQuiet p s) =
          (if s.monitor.quietPorts.get p = true ∨ s.monitor.quietPorts.get p.opposite = true then
            faultRecord .linkQuiet s
          else takenRecord (severity .linkQuiet s) true (faultRecord .linkQuiet s))
      ∧ ExchangeOnly s (reportPortQuiet p s) := by
  by_cases hsev : severity .linkQuiet s = 0
  · have hsame : reportPortQuiet p s = s := if_pos (.inl hsev)
    rw [hsame, hsev, if_pos rfl, takenRecord_true_of_active (.inl rfl), ite_self]
    exact ⟨rfl, rfl, .refl s⟩
  · rw [if_neg hsev]
    by_cases hown : s.monitor.quietPorts.get p = true
    · have hsame : reportPortQuiet p s = s := if_pos (.inr hown)
      have hset : s.monitor.quietPorts.set p true = s.monitor.quietPorts := by rw [← hown, ports_set_get]
      rw [hsame, if_pos (.inl hown), hset]
      exact ⟨rfl, rfl, .refl s⟩
    · have hadded : ExchangeOnly s
          { s with monitor := { s.monitor with quietPorts := s.monitor.quietPorts.set p true } } :=
        ⟨rfl, rfl, rfl, rfl, rfl, rfl, rfl, rfl⟩
      have hadds : reportPortQuiet p s =
          if s.monitor.quietPorts.get p.opposite then
            { s with monitor := { s.monitor with quietPorts := s.monitor.quietPorts.set p true } }
          else report .linkQuiet true
            { s with monitor := { s.monitor with quietPorts := s.monitor.quietPorts.set p true } } :=
        if_neg (not_or.2 ⟨hsev, hown⟩)
      by_cases hother : s.monitor.quietPorts.get p.opposite = true
      · rw [hadds, if_pos hother, if_pos (.inr hother)]
        exact ⟨rfl, rfl, hadded⟩
      · have hreaction := report_reaction .linkQuiet true
          { s with monitor := { s.monitor with quietPorts := s.monitor.quietPorts.set p true } }
        rw [hadds, if_neg hother, if_neg (not_or.2 ⟨hown, hother⟩)]
        exact ⟨hreaction.quietPorts, (report_record .linkQuiet true _ rfl).1, hadded.trans hreaction.exchange⟩

/-- Settles O16: the marks are set first, then the condition is reported. -/
theorem freshnessAndQuietExpiriesReport : Obligations.FreshnessAndQuietExpiriesReport := by
  refine ⟨fun c s hreset henabled htimer => ?_, fun p s hreset htimer => ?_⟩
  · intro marked
    have hexec : exec (.freshnessTimerExpiry c) s = .next (freshnessTimerExpiry c s) :=
      unlessReset_of_not_inReset _ hreset
    have hmarked : freshnessTimerExpiry c s = reportStaleOf (look s.channels.table c).role true marked :=
      if_pos ⟨henabled, timerDue_of_zero htimer⟩
    rw [hmarked] at hexec
    refine ⟨_, hexec, reportStaleOf_reaction _ true marked, fun hnone => reportStaleOf_of_none hnone true marked,
      fun k hk => ?_⟩
    rw [reportStaleOf_of_staleKind hk]
    exact (report_record k true marked (reportedAlong_of_staleKind hk)).1
  · have hexec : exec (.quietTimerExpiry p) s = .next (quietTimerExpiry p s) := unlessReset_of_not_inReset _ hreset
    have hstopped : quietTimerExpiry p s = reportPortQuiet p (setRx p { s.rx.get p with quiet := none } s) :=
      if_pos (timerDue_of_zero htimer)
    rw [hstopped] at hexec
    obtain ⟨hports, hrecord, hexchange⟩ := reportPortQuiet_leaves p (setRx p { s.rx.get p with quiet := none } s)
    exact ⟨_, hexec, hexchange.rx, hports, hrecord, hexchange.classifier, hexchange.channels, hexchange.envelope,
      hexchange.shaper, hexchange.agent, hexchange.node, hexchange.resets⟩

/-! ## Anchors -/

theorem anchorSignal_of_idle {s : State} (hmode : s.lean.mode ≠ .bridge) (hcycle : s.lean.cycle = none) :
    anchorSignal s = startCycle .anchor s := by
  cases h : s.lean.mode with
  | bridge => exact absurd h hmode
  | standby | active | recover => simp [anchorSignal, h, hcycle]

theorem anchorSignal_of_cycle {s : State} (hmode : s.lean.mode ≠ .bridge) (hcycle : s.lean.cycle ≠ none) :
    anchorSignal s =
      if s.lean.pendingAnchor = false then
        setLeanCounters (fun c => { c with overlaps := bump c.overlaps })
          { s with lean := { s.lean with pendingAnchor := true } }
      else
        report .cycleOverrun true
          (setLeanCounters (fun c => { c with discardedAnchors := bump c.discardedAnchors }) s) := by
  cases h : s.lean.mode with
  | bridge => exact absurd h hmode
  | standby | active | recover => simp only [anchorSignal, h, hcycle, if_false]

/-- The state in which a cycle has started with this row (R96, R92, R109). -/
theorem startCycle_eq (cause : Cause) {s : State} (hmode : s.lean.mode ≠ .bridge) :
    startCycle cause s =
      { s with lean := { s.lean with
          row := selectRow s.envelope s.lean.row (magnitude (roleValue .speed s)) (bandHyst s)
          cycle :=
            some (newCycle cause (selectRow s.envelope s.lean.row (magnitude (roleValue .speed s)) (bandHyst s)) s)
          timer := some (cycleLimit s)
          counters :=
            countStart cause (selectRow s.envelope s.lean.row (magnitude (roleValue .speed s)) (bandHyst s))
              s.lean.counters } } := by
  cases h : s.lean.mode with
  | bridge => exact absurd h hmode
  | standby | active | recover => simp [startCycle, h]

/-- The counters that the start of a cycle may increment (R109). -/
theorem countStart_eq (cause : Cause) (row : Option (Fin 12)) (c : LeanCounters) :
    countStart cause row c =
      { c with
        anchorCycles := if cause = .anchor then bump c.anchorCycles else c.anchorCycles
        pendingCycles := if cause = .pending then bump c.pendingCycles else c.pendingCycles
        blindCycles := if cause = .timer then bump c.blindCycles else c.blindCycles
        withoutRow := if row = none then bump c.withoutRow else c.withoutRow } := by
  cases row <;> cases cause <;> simp [countStart]

/-- Settles O22: by the three branches of an anchor signal outside BRIDGE. -/
theorem anchorSignalFollowsTheTable : Obligations.AnchorSignalFollowsTheTable := by
  intro s hmode
  refine ⟨fun hidle => ?_, fun hcycle hnone => ?_, fun hcycle hpending => ?_⟩
  · rw [anchorSignal_of_idle hmode hidle, startCycle_eq .anchor hmode]
    refine ⟨_, rfl, rfl, rfl, ?_⟩
    rw [countStart_eq]
    rfl
  · rw [anchorSignal_of_cycle hmode hcycle, if_pos hnone]
    rfl
  · rw [anchorSignal_of_cycle hmode hcycle, if_neg (by simp [hpending])]
    have hlean := (report_reaction .cycleOverrun true
      (setLeanCounters (fun c => { c with discardedAnchors := bump c.discardedAnchors }) s)).lean
    refine ⟨by rw [hlean]; rfl, by rw [hlean]; rfl, by rw [hlean]; exact hpending,
      (report_record .cycleOverrun true _ rfl).1⟩

/-- Settles O21: a cycle that starts is the one that `startCycle_eq` writes; the timer's expiry stops the timer first,
which the cycle does not see. -/
theorem cyclesStartWithTheirSnapshot : Obligations.CyclesStartWithTheirSnapshot := by
  refine ⟨fun s hreset htimer hcycle => ?_, fun cause s hmode => ?_⟩
  · have hexec : exec .cycleTimerExpiry s = .next (cycleTimerExpiry s) := unlessReset_of_not_inReset _ hreset
    refine ⟨fun hsends => ?_, fun hstandby => ?_⟩
    · have hstarts : cycleTimerExpiry s = startCycle .timer { s with lean := { s.lean with timer := none } } := by
        rcases hsends with h | h <;> simp [cycleTimerExpiry, timerDue, htimer, sendingMode, h, hcycle]
      have hmode : s.lean.mode ≠ .bridge := by
        rcases hsends with h | h <;> simp [h]
      rw [hexec, hstarts, startCycle_eq .timer (s := { s with lean := { s.lean with timer := none } }) hmode]
      refine ⟨_, _, rfl, rfl, rfl, rfl, rfl, rfl, rfl, ?_, rfl⟩
      rw [countStart_eq]
      rfl
    · rw [hexec]
      simp [cycleTimerExpiry, timerDue, htimer, sendingMode, hstandby]
  · rw [startCycle_eq cause hmode]
    refine ⟨_, rfl, rfl, rfl, rfl, rfl, rfl, rfl, rfl, rfl, rfl, rfl, rfl, ?_⟩
    rw [countStart_eq]
    rfl

/-! ## Lock position signals -/

/-- Settles O34: by the five lock states; a report leaves the lock that has come to rest, and outside ACTIVE the
mode. -/
theorem lockSignalFollowsTheTable : Obligations.LockSignalFollowsTheTable := by
  intro v s engaged t
  have hreads : readsEngaged v s = decide engaged := rfl
  refine ⟨fun hstate => ?_, fun hstate heng => ?_, fun hstate heng => ?_, fun hstate heng => ?_, fun hstate heng => ?_,
    fun hstate => ?_⟩
  · rcases hstate with hstate | hstate
    · have ht : t = report .lockSlip (!readsEngaged v s) s := by simp only [t, lockSignal, hstate]
      rw [ht, (report_record .lockSlip _ s rfl).1, hreads, hstate]
      simp
    · have ht : t = report .lockSlip (readsEngaged v s) s := by simp only [t, lockSignal, hstate]
      rw [ht, (report_record .lockSlip _ s rfl).1, hreads, hstate]
      simp
  · simp [t, lockSignal, hstate, hreads, heng]
  · have ht : t = report .lockSlip false (report .lockStuck false
        { s with lock := { s.lock with state := .free, output := false, engageQualify := none, confirm := none } }) := by
      simp only [t, lockSignal, hstate, hreads, heng, decide_false, Bool.false_eq_true, if_false]
      rfl
    obtain ⟨hlock, hstuck, hreaction⟩ := report_after_resting_lock (k := .lockStuck) rfl false
      (x := { s.lock with state := .free, output := false, engageQualify := none, confirm := none }) rfl s
    generalize report .lockStuck false
      { s with lock := { s.lock with state := .free, output := false, engageQualify := none, confirm := none } } = u
      at ht hlock hstuck hreaction
    have hlock' := report_keepsRestingLock .lockSlip false u (by rw [hlock]; rfl)
    obtain ⟨hslip, hothers⟩ := report_record .lockSlip false u rfl
    rw [ht, hlock', hlock]
    refine ⟨rfl, rfl, rfl, fun hsev => ?_, fun hsev => ?_⟩
    · rw [hslip, takenRecord_false_of_active (by rw [hreaction.severity]; exact hsev)]
    · rw [hothers .lockStuck (by simp) rfl, hstuck, takenRecord_false_of_active hsev]
  · have ht : t = handBack (report .lockSlip false (report .lockNoConfirm false
        { s with lock := { s.lock with state := .engaged, output := true, releaseQualify := none, confirm := none } })) := by
      simp only [t, lockSignal, hstate, hreads, heng, decide_true, if_true]
      rfl
    obtain ⟨hlock, hconfirm, hreaction⟩ := report_after_resting_lock (k := .lockNoConfirm) rfl false
      (x := { s.lock with state := .engaged, output := true, releaseQualify := none, confirm := none }) rfl s
    have hreacts := report_reacts .lockNoConfirm false
      { s with lock := { s.lock with state := .engaged, output := true, releaseQualify := none, confirm := none } }
    generalize report .lockNoConfirm false
      { s with lock := { s.lock with state := .engaged, output := true, releaseQualify := none, confirm := none } } = u
      at ht hlock hconfirm hreaction hreacts
    have hlock' := report_keepsRestingLock .lockSlip false u (by rw [hlock]; rfl)
    obtain ⟨hslip, hothers⟩ := report_record .lockSlip false u rfl
    have hback (w : State) : (handBack w).lock = w.lock ∧ (∀ k, faultRecord k (handBack w) = faultRecord k w)
        ∧ (w.lean.mode = .recover → (handBack w).lean.mode = .standby) := by
      unfold handBack
      split
      · exact ⟨rfl, fun _ => rfl, fun _ => rfl⟩
      all_goals exact ⟨rfl, fun _ => rfl, fun h => by simp_all⟩
    obtain ⟨hbackLock, hbackRecord, hbackMode⟩ := hback (report .lockSlip false u)
    rw [ht, hbackLock, hlock', hlock]
    refine ⟨rfl, rfl, rfl, fun hsev => ?_, fun hsev => ?_, fun hmode => hbackMode ?_⟩
    · rw [hbackRecord, hslip, takenRecord_false_of_active (by rw [hreaction.severity]; exact hsev)]
    · rw [hbackRecord, hothers .lockNoConfirm (by simp) rfl, hconfirm, takenRecord_false_of_active hsev]
    · have hsame := (hreacts.trans (report_reacts .lockSlip false u)).mode_of_ne_active (by simp [hmode])
      exact hsame.trans hmode
  · simp [t, lockSignal, hstate, hreads, heng]
  · simp [t, lockSignal, hstate]

end Sys2Proof.Machine
end

section
/-! PROOF. Receivers, taps, transmission and shaping: what one command or one frame does (R24, R26, R51 to R61, R44,
R112 to R118). -/

namespace Sys2Proof.Machine

/-! ## Frames that are counted and dropped -/

/-- A damaged frame at the receiver (R26). -/
theorem rx_get_badFrame (p : Port) (b : Token) (s : State) :
    (badFrame p b s).rx.get p =
      { s.rx.get p with phase := .idle, checkError := bump (s.rx.get p).checkError } := by
  simp [badFrame]

theorem buffer_badFrame (p : Port) (b c : Token) (s : State) :
    buffer c (badFrame p b s) = if b = c then Buffer.empty else buffer c s := by
  simp [badFrame, buffer_releaseBuffer]

theorem badFrame_reception (p : Port) (b : Token) (s : State) : ReceptionOnly p s (badFrame p b s) :=
  ((releaseBuffer_reception p b s).trans (countCheckError_reception p _)).trans (setPhase_reception p _ _)

section
variable {p : Port} {body : List Byte} {b : Token} {n : Nat} {s : State}

/-- The bytes that end a frame are stored before the check is judged (R26). -/
theorem frameEnd_of_whole (hphase : (s.rx.get p).phase = .body b n) (hlen : n ≤ body.length) :
    frameEnd p body s =
      if checkAgrees (receivedFrame b n body s) then goodFrame p b (setBytes b (receivedFrame b n body s) s)
      else badFrame p b (setBytes b (receivedFrame b n body s) s) := by
  have hstored : buffer b (setBytes b (receivedFrame b n body s) s) =
      { buffer b s with bytes := receivedFrame b n body s } := by simp [buffer_setBytes]
  unfold receivedFrame at hstored ⊢
  simp only [frameEnd, hphase, Nat.not_lt.2 hlen, if_false, hstored]

end

/-- Settles O8: the three branches of the receiver; a damaged frame is the release, the count and the phase. -/
theorem longAndDamagedFramesAreCounted : Obligations.LongAndDamagedFramesAreCounted := by
  refine ⟨fun p b0 b1 b2 b3 s hreset => ⟨fun hphase hlong => ?_, fun n hphase => ?_⟩,
    fun p body b n s hreset hphase hlen hcheck => ?_⟩
  · refine (unlessReset_of_not_inReset _ hreset).trans ?_
    have hlong' : Config.longestPayload < b3.toNat := hlong
    simp only [headerComplete, hphase, hlong', if_true]
    rfl
  · refine (unlessReset_of_not_inReset _ hreset).trans ?_
    simp only [discardEnd, hphase]
    rfl
  · refine ⟨_, unlessReset_of_not_inReset _ hreset, ?_⟩
    rw [frameEnd_of_whole hphase hlen, hcheck, if_neg Bool.false_ne_true]
    refine ⟨rx_get_badFrame p b _, ?_, fun c hc => ?_, ?_⟩
    · rw [buffer_badFrame, if_pos rfl]
    · rw [buffer_badFrame, if_neg hc.symm, buffer_setBytes, if_neg hc.symm]
    · exact (setBytes_reception p b _ s).trans (badFrame_reception p b _)

/-! ## Signals -/

/-- The signals after an accepted sample: an anchor by ROLL_RATE, a position by LOCK_POSITION (R59, R60). -/
theorem raiseSignal_eq (role : Role) (value : Word) (g : Signals) :
    raiseSignal role value g =
      { anchor := g.anchor || role == .rollRate,
        lockPosition := if role = .lockPosition then some value else g.lockPosition } := by
  obtain ⟨anchor, position⟩ := g
  cases role <;> cases anchor <;> rfl

/-- Settles O15: the signal of an accepted tap by its role, and the order of `giveSignals`. -/
theorem signalsFollowTheTapsAnchorFirst : Obligations.SignalsFollowTheTapsAnchorFirst := by
  refine ⟨?_, fun frame c rest g s => ⟨rfl, rfl⟩, ?_⟩
  · intro frame c g s e henabled hlong hseq
    rw [tap_of_accepted g henabled hlong hseq]
    exact raiseSignal_eq _ _ g
  · intro frame taps s g t
    have ht : tapFrame frame taps s = giveSignals g t := rfl
    rw [ht]
    exact ⟨fun ha hl => by simp [giveSignals, ha, hl], fun ha hl => by simp [giveSignals, ha, hl],
      fun v ha hl => by simp [giveSignals, ha, hl], fun v ha hl => by simp [giveSignals, ha, hl]⟩

/-! ## The beginning of a transmission -/

section
variable {p : Port} {b : Token} {s : State}

/-- A frame other than the status frame in hand goes out as it is held (R44). -/
theorem beginTransmission_of_other (h : ¬(p = .cockpit ∧ s.monitor.statusInHand = some b)) :
    beginTransmission p b s = setTx p { s.tx.get p with sending := some b } (setBufferState b .sending s) :=
  if_neg h

/-- The status frame in hand is filled as it goes out (R172). -/
theorem beginTransmission_of_status (h : p = .cockpit ∧ s.monitor.statusInHand = some b) :
    beginTransmission p b s =
      fillStatus b (setTx p { s.tx.get p with sending := some b } (setBufferState b .sending s)) :=
  if_pos h

theorem buffer_beginTransmission_of_other (h : ¬(p = .cockpit ∧ s.monitor.statusInHand = some b)) :
    buffer b (beginTransmission p b s) = { buffer b s with state := .sending } := by
  rw [beginTransmission_of_other h, buffer_setTx, buffer_setBufferState, if_pos rfl]

theorem buffer_beginTransmission_of_status (h : p = .cockpit ∧ s.monitor.statusInHand = some b) :
    buffer b (beginTransmission p b s) =
      { buffer b s with state := .sending, bytes := withCheck ((buffer b s).bytes.take 4 ++ stateRecord s) } := by
  rw [beginTransmission_of_status h]
  have hfill (u : State) : buffer b (fillStatus b u) =
      { buffer b u with bytes := withCheck ((buffer b u).bytes.take 4 ++ stateRecord u) } :=
    (buffer_setBytes b b _ u).trans (if_pos rfl)
  rw [hfill, buffer_setTx, buffer_setBufferState, if_pos rfl]
  rfl

theorem buffer_beginTransmission_of_ne {c : Token} (hc : c ≠ b) : buffer c (beginTransmission p b s) = buffer c s := by
  by_cases h : p = .cockpit ∧ s.monitor.statusInHand = some b
  · rw [beginTransmission_of_status h]
    have hfill (u : State) : buffer c (fillStatus b u) = buffer c u :=
      (buffer_setBytes b c _ u).trans (if_neg hc.symm)
    rw [hfill, buffer_setTx, buffer_setBufferState, if_neg hc.symm]
  · rw [beginTransmission_of_other h, buffer_setTx, buffer_setBufferState, if_neg hc.symm]

end

/-- Settles O18: with and without the status frame in hand. -/
theorem transmissionBeginsWithTheBytesHeld : Obligations.TransmissionBeginsWithTheBytesHeld := by
  intro p b s t
  have hstate : (buffer b t).state = .sending := by
    by_cases h : p = .cockpit ∧ s.monitor.statusInHand = some b
    · rw [show t = beginTransmission p b s from rfl, buffer_beginTransmission_of_status h]
    · rw [show t = beginTransmission p b s from rfl, buffer_beginTransmission_of_other h]
  refine ⟨?_, hstate, fun c hc => buffer_beginTransmission_of_ne hc, fun h => ⟨?_, ?_⟩, fun h => ⟨?_, ?_⟩⟩
  · rw [show t = beginTransmission p b s from rfl, beginTransmission_tx, ports_get_set_same]
  · rw [show t = beginTransmission p b s from rfl, buffer_beginTransmission_of_other h]
  · rw [show t = beginTransmission p b s from rfl, beginTransmission_of_other h]
    rfl
  · rw [show t = beginTransmission p b s from rfl, buffer_beginTransmission_of_status h]
  · rw [show t = beginTransmission p b s from rfl, beginTransmission_of_status h]
    rfl

/-! ## The steer shaper -/

theorem steerLimit_nonneg (s : State) : 0 ≤ steerLimit s := by
  unfold steerLimit
  dsimp only
  split <;> omega

theorem clampedDemand_eq (s0 : Int) (s : State) :
    clampedDemand s0 s = max (-steerLimit s) (min (steerLimit s) s0) :=
  clampTo_eq_max_min (steerLimit_nonneg s) s0

theorem steppedSteer_eq {step : Int} (hstep : 0 ≤ step) (last : Option Int) (s1 : Int) :
    steppedSteer last s1 step =
      match last with
      | none => s1
      | some q => max (q - step) (min (q + step) s1) := by
  cases last with
  | none => rfl
  | some q => exact moveToward_eq_max_min hstep q s1

theorem settledSteer_eq {l : Int} (hl : 0 ≤ l) (stepped deadband : Int) :
    settledSteer stepped l deadband =
      if magnitude (max (-l) (min l stepped)) < deadband then 0 else max (-l) (min l stepped) := by
  simp only [settledSteer, clampTo_eq_max_min hl]

/-- The shaped value keeps the limit (R117). -/
theorem magnitude_settledSteer_le {l : Int} (hl : 0 ≤ l) (stepped deadband : Int) :
    magnitude (settledSteer stepped l deadband) ≤ l := by
  unfold settledSteer
  dsimp only
  split
  · exact hl
  · exact magnitude_clampTo_le hl stepped

/-- The demand is clamped exactly when it lies outside ±L (R116). -/
theorem clampedDemand_eq_self_iff (s0 : Int) (s : State) : clampedDemand s0 s = s0 ↔ ¬steerLimit s < magnitude s0 := by
  have hl := steerLimit_nonneg s
  rw [clampedDemand_eq, magnitude]
  omega

theorem clamped_shapedShaper (s0 : Int) (s : State) :
    (shapedShaper s0 s).clamped = decide (steerLimit s < magnitude s0) := by
  have h := clampedDemand_eq_self_iff s0 s
  show (clampedDemand s0 s != s0) = _
  by_cases hlt : steerLimit s < magnitude s0 <;> simp [h, hlt]

/-- Settles O27: each line of the shaper as bounds, the step from the last value included. -/
theorem shapingComputesAndRecordsItsValue : Obligations.ShapingComputesAndRecordsItsValue := by
  intro s0 s l step s1 stepped settled
  have hl : 0 ≤ l := steerLimit_nonneg s
  have hs1 : clampedDemand s0 s = s1 := clampedDemand_eq s0 s
  have hstepped : steppedSteer s.shaper.last (clampedDemand s0 s) step = stepped := by
    rw [hs1]
    exact steppedSteer_eq (Int.natCast_nonneg _) s.shaper.last s1
  have hvalue : shapedValue s0 s = settledSteer stepped l ((rowInUse s).steerDeadband.toNat : Int) :=
    congrArg (settledSteer · l _) hstepped
  refine ⟨rfl, hvalue.trans (settledSteer_eq hl stepped _), ?_, ?_, ?_, ?_, rfl, rfl, rfl⟩
  · rw [hvalue]
    exact magnitude_settledSteer_le hl stepped _
  · rw [clamped_shapedShaper, decide_eq_true_iff]
  · show (if clampedDemand s0 s = s0 then s.shaper.clampedCount else bump s.shaper.clampedCount) = _
    simp only [clampedDemand_eq_self_iff, ite_not]
    rfl
  · show (if steppedSteer s.shaper.last (clampedDemand s0 s) step = clampedDemand s0 s then s.shaper.limitedCount
      else bump s.shaper.limitedCount) = _
    rw [hstepped, hs1]

theorem shapedChannel_cons (frame : List Byte) (c : Channel) (rest : List Channel) (s : State) :
    shapedChannel frame (c :: rest) s =
      if s.envelope.valid = false ∨ (look s.channels.table c).enabled = false
          ∨ (look s.channels.table c).role ≠ .riderSteer
          ∨ frameLength frame < 2 * (look s.channels.table c).offset.val + 2 then none
      else some c := by
  have hword := wordBeyond_eq_true_iff (look s.channels.table c).offset (frameLength frame)
  have hcond : (s.envelope.valid && (look s.channels.table c).enabled
        && (look s.channels.table c).role == .riderSteer
        && !wordBeyond (look s.channels.table c).offset (frameLength frame)) = true
      ↔ ¬(s.envelope.valid = false ∨ (look s.channels.table c).enabled = false
          ∨ (look s.channels.table c).role ≠ .riderSteer
          ∨ frameLength frame < 2 * (look s.channels.table c).offset.val + 2) := by
    simp [← hword, and_assoc]
  simp only [shapedChannel, hcond, ite_not]

/-- Settles O28: the tapped frame is bypassed or shaped, and what is reported, written and handed over follows; the
taps leave the parameters, so TRACK_STEER is that of before. -/
theorem steerFramesAreShapedOrBypassed : Obligations.SteerFramesAreShapedOrBypassed := by
  intro p b c rest urgent s frame queue u e bypassed s0 counted reported written
  have hshape : shape p b (c :: rest) urgent s =
      enqueue p.opposite queue b
        (match shapedChannel frame (c :: rest) u with
        | none => bypassFrame u
        | some d => shapeFrame b frame (look u.channels.table d).offset u) := rfl
  rw [hshape, shapedChannel_cons]
  have htrack : trackSteer (setBytes b (rewriteWord frame (2 * e.offset.val) (signedWord (shapedValue s0 u)))
      (report .demandClamped (shapedShaper s0 u).clamped { u with shaper := shapedShaper s0 u })) = trackSteer s := by
    have hparams := ((tapFrame_frame frame (c :: rest) s).trans ((setShaper_frame (shapedShaper s0 u) u).trans
      (report_reaction .demandClamped (shapedShaper s0 u).clamped _).frame)).params
    simp only [trackSteer, param]
    exact congrArg (fun v : Vector Word 44 => (look v 22).toNat) hparams
  have hshaped : shapeFrame b frame e.offset u =
      if trackSteer s = 1 then handOver .steer b (frameSeq frame) written else written := by
    rw [← htrack]
    show _ = if _ then handOver .steer b (frameSeq frame) (setBytes b _ (report .demandClamped _ _))
      else setBytes b _ (report .demandClamped _ _)
    rw [← clamped_shapedShaper]
    rfl
  refine ⟨fun h => ?_, fun h htrack => ?_, fun h htrack => ?_⟩
  · rw [if_pos h]
    rfl
  · rw [if_neg h]
    exact congrArg _ (hshaped.trans (if_pos htrack))
  · rw [if_neg h]
    exact congrArg _ (hshaped.trans (if_neg htrack))

end Sys2Proof.Machine
end

section
/-! PROOF. Band selection (R78 to R81) and the rewriting of a frame (R118). -/

namespace Sys2Proof.Machine

/-! ## Band selection -/

section selection
variable {rows : Vector EnvelopeRow 12} {speed hyst : Int}

/-- The last index that passes a test passes it, and no higher index does. -/
theorem find_last {n : Nat} (f : Fin n → Bool) (b : Fin n) (h : (List.finRange n).reverse.find? f = some b) :
    f b = true ∧ ∀ c, b < c → f c = false := by
  rw [List.find?_eq_some_iff_append] at h
  obtain ⟨hb, as, bs, hl, has⟩ := h
  refine ⟨hb, fun c hc => ?_⟩
  have hm : c ∈ as ++ b :: bs := hl ▸ List.mem_reverse.2 (List.mem_finRange c)
  have hs : (as ++ b :: bs).Pairwise (fun x y => y < x) :=
    hl ▸ List.pairwise_reverse.2 (List.pairwise_lt_finRange n)
  rw [List.pairwise_append, List.pairwise_cons] at hs
  rcases List.mem_append.1 hm with hm | hm
  · simpa using has c hm
  · rcases List.mem_cons.1 hm with rfl | hm
    · exact absurd hc (Nat.lt_irrefl _)
    · exact absurd hc (Nat.lt_asymm (hs.2.1.1 c hm))

/-- Plain selection finds a row of a valid envelope, and the highest that it may (R79). -/
theorem plainRow_of_valid (hvalid : envelopeValid rows = true) (hspeed : 0 ≤ speed) :
    ∃ r, plainRow rows speed = some r ∧ (look rows r).enabled = true ∧ ((look rows r).lowEdge.toNat : Int) ≤ speed
      ∧ ∀ q, r < q → (look rows q).enabled = true → speed < ((look rows q).lowEdge.toNat : Int) := by
  simp only [envelopeValid, Bool.and_eq_true, beq_iff_eq] at hvalid
  obtain ⟨⟨⟨henabled, hlow⟩, -⟩, -⟩ := hvalid
  have hzero : ((look rows 0).lowEdge.toNat : Int) ≤ speed := by simpa [hlow] using hspeed
  have hsome : (plainRow rows speed).isSome = true := by
    unfold plainRow
    rw [List.find?_isSome]
    exact ⟨0, List.mem_reverse.2 (List.mem_finRange 0), by simp [henabled, hzero]⟩
  obtain ⟨r, hr⟩ := Option.isSome_iff_exists.1 hsome
  obtain ⟨hfound, hhigher⟩ := find_last _ r hr
  simp only [Bool.and_eq_true, decide_eq_true_eq] at hfound
  exact ⟨r, hr, hfound.1, hfound.2, fun q hq he => by simpa [he] using hhigher q hq⟩

/-- The upward pass moves only onto edges that the speed reaches with the hysteresis, and stops below one that it does
not (R80). -/
theorem passUp_spec (n : Nat) (r : Fin 12) (hfuel : 12 ≤ r.val + 1 + n) :
    r ≤ passUp rows speed hyst n r
      ∧ (r < passUp rows speed hyst n r →
          ((look rows (passUp rows speed hyst n r)).lowEdge.toNat : Int) + hyst ≤ speed)
      ∧ ∀ u : Fin 12, u.val = (passUp rows speed hyst n r).val + 1 → (look rows u).enabled = true →
          speed < ((look rows u).lowEdge.toNat : Int) + hyst := by
  induction n generalizing r with
  | zero => exact ⟨Fin.le_refl _, fun h => absurd h (Fin.lt_irrefl r), fun u hu => absurd hu (by simp only [passUp]; omega)⟩
  | succ n ih =>
    unfold passUp
    split
    next hlast =>
      dsimp only
      split
      next hmove =>
        obtain ⟨hle, hreached, hstop⟩ := ih ⟨r.val + 1, hlast⟩ (by simp only; omega)
        refine ⟨Nat.le_trans (Nat.le_succ _) hle, fun _ => ?_, hstop⟩
        rcases Fin.eq_or_lt_of_le hle with heq | hlt
        · rw [← heq]
          exact hmove.2
        · exact hreached hlt
      next hstay =>
        refine ⟨Fin.le_refl _, fun h => absurd h (Fin.lt_irrefl r), fun u hu he => ?_⟩
        obtain rfl : u = ⟨r.val + 1, hlast⟩ := Fin.ext hu
        exact Int.lt_of_not_ge fun hge => hstay ⟨he, hge⟩
    next hlast =>
      exact ⟨Fin.le_refl _, fun h => absurd h (Fin.lt_irrefl r), fun u hu => absurd hu (by omega)⟩

/-- The downward pass leaves only rows whose edge the speed falls below by the hysteresis, and stops at row 0 or at one
that it does not (R80). -/
theorem passDown_spec (n : Nat) (r : Fin 12) (hfuel : r.val ≤ n) :
    passDown rows speed hyst n r ≤ r
      ∧ (passDown rows speed hyst n r < r → ∀ u : Fin 12, u.val = (passDown rows speed hyst n r).val + 1 →
          speed < ((look rows u).lowEdge.toNat : Int) - hyst)
      ∧ (passDown rows speed hyst n r = 0
          ∨ ((look rows (passDown rows speed hyst n r)).lowEdge.toNat : Int) - hyst ≤ speed) := by
  induction n generalizing r with
  | zero => exact ⟨Fin.le_refl _, fun h => absurd h (Fin.lt_irrefl r), .inl (Fin.ext (Nat.le_zero.1 hfuel))⟩
  | succ n ih =>
    unfold passDown
    split
    next hmove =>
      obtain ⟨hle, hleft, hstop⟩ := ih ⟨r.val - 1, by omega⟩ (by simp only; omega)
      refine ⟨Nat.le_trans hle (Nat.sub_le _ _), fun _ u hu => ?_, hstop⟩
      rcases Fin.eq_or_lt_of_le hle with heq | hlt
      · obtain rfl : u = r := Fin.ext (by rw [hu, heq]; exact Nat.sub_add_cancel hmove.1)
        exact hmove.2
      · exact hleft hlt u hu
    next hstay =>
      refine ⟨Fin.le_refl _, fun h => absurd h (Fin.lt_irrefl r), ?_⟩
      rcases Nat.eq_zero_or_pos r.val with hzero | hpos
      · exact .inl (Fin.ext hzero)
      · exact .inr (Int.le_of_not_gt fun hlt => hstay ⟨hpos, hlt⟩)

/-- A row whose edge the speed reaches is not left downward. -/
theorem passDown_of_reached {r : Fin 12} (h : ((look rows r).lowEdge.toNat : Int) - hyst ≤ speed) (n : Nat) :
    passDown rows speed hyst n r = r := by
  cases n with
  | zero => rfl
  | succ n => exact if_neg fun hmove => absurd hmove.2 (Int.not_lt.2 h)

end selection

/-- Settles O26: plain selection by its search, and with a row selected by the two passes, the second of which does not
undo a move of the first. -/
theorem selectionTakesTheBandWithHysteresis : Obligations.SelectionTakesTheBandWithHysteresis := by
  intro env speed hyst hflag hvalid hspeed
  refine ⟨?_, fun r henabled => ?_⟩
  · obtain ⟨r, hr, hrest⟩ := plainRow_of_valid hvalid hspeed
    exact ⟨r, by simp only [selectRow, hflag, if_true, hr], hrest⟩
  · obtain ⟨hup, hreached, hstop⟩ := passUp_spec (rows := env.rows) (speed := speed) (hyst := hyst) 11 r (by omega)
    have hm := passUp_enabled env.rows speed hyst 11 r henabled
    generalize hpass : passUp env.rows speed hyst 11 r = m at hup hreached hstop hm
    obtain ⟨hdown, hleft, hend⟩ := passDown_spec (rows := env.rows) (speed := speed) (hyst := hyst) 11 m (by omega)
    have hq := passDown_enabled hvalid speed hyst 11 m hm
    have hmoved : r < m → passDown env.rows speed hyst 11 m = m := fun h =>
      passDown_of_reached (by have := hreached h; omega) 11
    have hselect : selectRow env (some r) speed hyst = some (passDown env.rows speed hyst 11 m) := by
      simp only [selectRow, hflag, if_true, hpass]
    generalize passDown env.rows speed hyst 11 m = q at hdown hleft hend hq hmoved hselect
    have hsame : r ≤ q → q = m := fun h =>
      (Fin.eq_or_lt_of_le hup).elim (fun heq => Fin.le_antisymm hdown (heq ▸ h)) hmoved
    refine ⟨q, hselect, hq, fun h => ?_, fun u hu h he => ?_, fun h => ?_, fun _ => hend⟩
    · obtain rfl := hsame (Fin.le_of_lt h)
      exact hreached h
    · obtain rfl := hsame h
      exact hstop u hu he
    · have heq : r = m := (Fin.eq_or_lt_of_le hup).resolve_right fun hlt => absurd (hmoved hlt ▸ hlt) (Fin.lt_asymm h)
      exact hleft (heq ▸ h)

/-! ## Rewriting -/

theorem wordOf_hiByte_loByte (w : Word) : wordOf (hiByte w) (loByte w) = w := by
  unfold wordOf hiByte loByte
  apply BitVec.eq_of_getLsbD_eq
  intro i hi
  simp only [BitVec.getLsbD_append, BitVec.getLsbD_extractLsb', Nat.zero_add]
  split
  next h => simp [h]
  next h =>
    have h8 : i - 8 < 8 := by omega
    have hsum : 8 + (i - 8) = i := by omega
    simp [h8, hsum]

theorem byteAt_append_left {as : List Byte} {j : Nat} (h : j < as.length) (bs : List Byte) :
    byteAt (as ++ bs) j = byteAt as j := by
  simp [byteAt, List.getD_eq_getElem?_getD, List.getElem?_append_left h]

theorem byteAt_append_right {as : List Byte} {j : Nat} (h : as.length ≤ j) (bs : List Byte) :
    byteAt (as ++ bs) j = byteAt bs (j - as.length) := by
  simp [byteAt, List.getD_eq_getElem?_getD, List.getElem?_append_right h]

theorem byteAt_take {bs : List Byte} {n j : Nat} (h : j < n) : byteAt (bs.take n) j = byteAt bs j := by
  simp [byteAt, List.getD_eq_getElem?_getD, h]

theorem byteAt_drop (bs : List Byte) (n j : Nat) : byteAt (bs.drop n) j = byteAt bs (n + j) := by
  simp [byteAt, List.getD_eq_getElem?_getD]

theorem byteAt_set_same {bs : List Byte} {j : Nat} (h : j < bs.length) (b : Byte) : byteAt (bs.set j b) j = b := by
  simp [byteAt, List.getD_eq_getElem?_getD, h]

theorem byteAt_set_of_ne {i j : Nat} (h : i ≠ j) (bs : List Byte) (b : Byte) :
    byteAt (bs.set i b) j = byteAt bs j := by
  simp [byteAt, List.getD_eq_getElem?_getD, h]

/-- Bytes with their check behind them have a check that agrees, when they are as long as their header says. -/
theorem checkAgrees_withCheck {bs : List Byte} (hlen : bs.length = 4 + frameLength bs) :
    checkAgrees (withCheck bs) = true := by
  have hlength : frameLength (withCheck bs) = frameLength bs := by
    unfold frameLength withCheck
    rw [byteAt_append_left (by omega)]
  have hcheck : frameCheck (withCheck bs) = crc16 bs := by
    have h0 := byteAt_append_right (as := bs) (j := 4 + frameLength bs) (by omega) (wordBytes (crc16 bs))
    have h1 := byteAt_append_right (as := bs) (j := 4 + frameLength bs + 1) (by omega) (wordBytes (crc16 bs))
    have hat0 : 4 + frameLength bs - bs.length = 0 := by omega
    have hat1 : 4 + frameLength bs + 1 - bs.length = 1 := by omega
    rw [hat0] at h0
    rw [hat1] at h1
    unfold frameCheck wordAt
    rw [hlength]
    unfold withCheck
    rw [h0, h1]
    exact wordOf_hiByte_loByte _
  have htake : (withCheck bs).take (4 + frameLength bs) = bs := by
    rw [← hlen]
    exact List.take_left
  rw [checkAgrees, hlength, htake, hcheck, beq_self_eq_true]

/-- Settles O29: the rewritten bytes before the check, one byte at a time; the length byte is none of the two that
change. -/
theorem rewriteChangesOneWordAndTheCheck : Obligations.RewriteChangesOneWordAndTheCheck := by
  intro frame i w hlen hi
  have hbody := show rewriteWord frame i w =
    withCheck (((frame.take (4 + frameLength frame)).set (4 + i) (hiByte w)).set (5 + i) (loByte w)) from rfl
  have hsize : (((frame.take (4 + frameLength frame)).set (4 + i) (hiByte w)).set (5 + i) (loByte w)).length =
      4 + frameLength frame := by
    rw [List.length_set, List.length_set, List.length_take]
    omega
  have hother : ∀ j, j < 4 + frameLength frame → j ≠ 4 + i → j ≠ 5 + i →
      byteAt (((frame.take (4 + frameLength frame)).set (4 + i) (hiByte w)).set (5 + i) (loByte w)) j =
        byteAt frame j := by
    intro j hj h4 h5
    rw [byteAt_set_of_ne h5.symm, byteAt_set_of_ne h4.symm, byteAt_take hj]
  have hhigh : byteAt (((frame.take (4 + frameLength frame)).set (4 + i) (hiByte w)).set (5 + i) (loByte w)) (4 + i) =
      hiByte w := by
    rw [byteAt_set_of_ne (by omega), byteAt_set_same (by rw [List.length_take]; omega)]
  have hlow : byteAt (((frame.take (4 + frameLength frame)).set (4 + i) (hiByte w)).set (5 + i) (loByte w)) (5 + i) =
      loByte w :=
    byteAt_set_same (by rw [List.length_set, List.length_take]; omega) _
  rw [hbody]
  generalize ((frame.take (4 + frameLength frame)).set (4 + i) (hiByte w)).set (5 + i) (loByte w) = body
    at hsize hother hhigh hlow
  have hbefore {j : Nat} (hj : j < 4 + frameLength frame) : byteAt (withCheck body) j = byteAt body j :=
    byteAt_append_left (by omega) _
  have hlength : frameLength body = frameLength frame :=
    congrArg BitVec.toNat (hother 3 (by omega) (by omega) (by omega))
  have hlength' : frameLength (withCheck body) = frameLength frame :=
    (congrArg BitVec.toNat (hbefore (by omega))).trans hlength
  have hpayload {j : Nat} (hj : j < frameLength frame) :
      byteAt (framePayload (withCheck body)) j = byteAt body (4 + j) := by
    rw [framePayload, hlength', byteAt_take hj, byteAt_drop, hbefore (by omega)]
  refine ⟨checkAgrees_withCheck (by rw [hlength, hsize]), ?_, ?_, fun j hj h4 h5 => ?_⟩
  · rw [wordAt, hpayload (by omega), hpayload hi, hhigh, show 4 + (i + 1) = 5 + i by omega, hlow,
      wordOf_hiByte_loByte]
  · rw [withCheck, List.length_append, hsize]
    rfl
  · rw [hbefore hj, hother j hj h4 h5]

end Sys2Proof.Machine
end

section
/-! PROOF. Requests judged: reads (R184), the stage (R186), commits (R187 to R189), and control (R87, R88, R194,
R195). -/

namespace Sys2Proof.Machine

/-! ## Tables and indices -/

theorem byte_eq_of_toNat {b : Byte} {n : Nat} (hn : n < 256) (h : b.toNat = n) : b = BitVec.ofNat 8 n :=
  BitVec.eq_of_toNat_eq (by rw [h, BitVec.toNat_ofNat, Nat.mod_eq_of_lt hn])

/-- A table byte names the table with that code (R201). -/
theorem tableCode_of_readTable {b : Byte} {t : TableName} (h : readTable b = some t) : tableCode t = b := by
  unfold readTable at h
  split at h
  case h_5 => cases h
  all_goals
    next hb =>
      cases h
      exact (byte_eq_of_toNat (by decide) hb).symm

/-- A table byte out of range names no table. -/
theorem readTable_eq_none {b : Byte} (h : b.toNat = 0 ∨ 5 ≤ b.toNat) : readTable b = none := by
  unfold readTable
  split
  case h_5 => rfl
  all_goals omega

theorem readIndex_of_eq {n : Nat} {b : Byte} {i : Fin n} (h : b.toNat = i.val) : readIndex n b = some i := by
  have hlt : b.toNat < n := h ▸ i.isLt
  simp only [readIndex, hlt, dif_pos, Option.some.injEq]
  exact Fin.ext h

theorem readIndex_eq_none {n : Nat} {b : Byte} (h : n ≤ b.toNat) : readIndex n b = none :=
  dif_neg (Nat.not_lt.2 h)

/-- No entry stands at an index beyond its table. -/
theorem entryData_eq_none {t : TableName} {index : Byte} (h : tableSize t ≤ index.toNat) (s : State) :
    entryData t index s = none := by
  cases t with
  | stream => simp only [entryData, readIndex_eq_none (n := 24) h, Option.map_none]
  | channel => simp only [entryData, readIndex_eq_none (n := 16) h, Option.map_none]
  | envelope => simp only [entryData, readIndex_eq_none (n := 12) h, Option.map_none]
  | param => simp only [entryData, readIndex_eq_none (n := 44) h, Option.map_none]

/-! ## Reads -/

theorem readEntry_of_entry {payload data : List Byte} {t : TableName} {s : State}
    (ht : readTable (byteAt payload 2) = some t) (hd : entryData t (byteAt payload 3) s = some data) :
    readEntry payload s = answer .done ([byteAt payload 2, byteAt payload 3] ++ data) s := by
  simp only [readEntry, ht, hd]

/-- A request in hand outside reset, long enough for its code, is executed. -/
theorem exec_request_of_long {c : Instr} {code : RequestCode} {execute : List Byte → State → State}
    (hexec : ∀ s, exec c s = unlessReset (completeRequest code execute) s) {payload : List Byte} {s : State}
    (hreset : inReset s = false) (hin : requestInHand code s = some payload)
    (hlen : neededLength code payload ≤ payload.length) : exec c s = .next (execute payload s) := by
  rw [hexec, unlessReset_of_not_inReset _ hreset, completeRequest_of_long hin hlen]

/-- Settles O45: the table byte and the index byte decide which entry is read. -/
theorem readsAnswerWhatIsInForce : Obligations.ReadsAnswerWhatIsInForce := by
  intro payload s hreset
  refine ⟨fun hin => ?_, fun hin hlen => ?_⟩
  · have hexec : exec .readState s = .next (readState payload s) :=
      exec_request_of_long (fun _ => rfl) hreset hin (two_le_of_requestInHand hin).2
    exact hexec
  have hexec : exec .readEntry s = .next (readEntry payload s) :=
    exec_request_of_long (fun _ => rfl) hreset hin hlen
  have hread {t : TableName} {b : Byte} {data : List Byte} (hb : byteAt payload 2 = b) (ht : readTable b = some t)
      (hd : entryData t (byteAt payload 3) s = some data) :
      exec .readEntry s = .next (answer .done ([b, byteAt payload 3] ++ data) s) := by
    subst hb
    rw [hexec, readEntry_of_entry ht hd]
  refine ⟨fun i hb hi => hread hb (t := .stream) rfl ?_, fun i hb hi => hread hb (t := .channel) rfl ?_,
    fun i hb hi => hread hb (t := .envelope) rfl ?_, fun i hb hi => hread hb (t := .param) rfl ?_, fun hb => ?_,
    fun n hn hi => ?_⟩
  · simp only [entryData, readIndex_of_eq hi, Option.map_some]
  · simp only [entryData, readIndex_of_eq hi, Option.map_some]
  · simp only [entryData, readIndex_of_eq hi, Option.map_some]
  · simp only [entryData, readIndex_of_eq hi, Option.map_some]
  · rw [hexec]
    simp only [readEntry, readTable_eq_none hb]
  · rw [hexec]
    simp only [readEntry, hn, entryData_eq_none hi]

/-! ## The stage -/

/-- How a verdict on a STAGE_ENTRY is answered (R186). -/
def stageVerdict (v : Except Result Stage) (s : State) : State :=
  match v with
  | .error r => answer r [] s
  | .ok stage => answer .done [] (setStage stage s)

theorem stageEntry_of_table {payload : List Byte} {t : TableName} {s : State} (hpending : s.agent.pendingCommit = none)
    (ht : readTable (byteAt payload 2) = some t) :
    stageEntry payload s = stageVerdict (staged t (byteAt payload 3) (payload.drop 4) s.agent.stage) s := by
  simp only [stageEntry, hpending, Option.isSome_none, Bool.false_eq_true, if_false, ht]
  rfl

/-- The judgements of one entry in their order (R186). -/
theorem stageEntryAnswered_of_exec {α : Type} {n : Nat} {own : Option (List (Fin n × α))} {index : Byte}
    {read : Fin n → Option α} {stage : List (Fin n × α) → Stage} {s : State}
    (h : exec .stageEntry s = .next (stageVerdict ((stageOne own (readIndex n index) read).map stage) s)) :
    StageEntryAnswered own index read stage s := by
  refine ⟨fun hout => ?_, fun i hi => ?_⟩
  · rw [h, readIndex_eq_none hout]
    rfl
  · rw [readIndex_of_eq hi] at h
    refine ⟨fun hbad => ?_, fun x hx => ⟨fun hown => ?_, fun es hown => ⟨fun hnew hfull => ?_, fun hroom => ?_⟩⟩⟩
    · simp only [stageOne, hbad] at h
      exact h
    · simp only [stageOne, hx, hown] at h
      exact h
    · have hfull' : Config.stageRoom ≤ es.length := hfull
      simp only [stageOne, hx, hown, hnew, Bool.false_eq_true, if_false, hfull', if_true] at h
      exact h
    · have hput : stageOne own (some i) read = .ok (stagePut es i x) := by
        simp only [stageOne, hx, hown]
        split
        · rfl
        next hnew =>
          exact if_neg (Nat.not_le.2 (hroom.resolve_left hnew))
      rw [h, hput]
      rfl

/-- Settles O46: the order of the judgements before the index, and the one lemma for the four tables from it on. -/
theorem stageRequestsAreJudgedInOrder : Obligations.StageRequestsAreJudgedInOrder := by
  refine ⟨fun payload s hreset hin hlen => ?_, fun payload s hreset hin => ?_⟩
  · have hexec : exec .stageEntry s = .next (stageEntry payload s) :=
      exec_request_of_long (fun _ => rfl) hreset hin hlen
    refine ⟨fun hpending => ?_, fun hpending => ⟨fun ht => ?_, ?_⟩⟩
    · rw [hexec, stageEntry, if_pos hpending]
    · rw [hexec]
      simp only [stageEntry, hpending, Option.isSome_none, Bool.false_eq_true, if_false, ht]
    · have hjudged {t : TableName} {b : Byte} (hb : byteAt payload 2 = b) (ht : readTable b = some t) :
          exec .stageEntry s =
            .next (stageVerdict (staged t (byteAt payload 3) (payload.drop 4) s.agent.stage) s) := by
        rw [hexec, stageEntry_of_table hpending (hb ▸ ht)]
      refine ⟨fun hb => stageEntryAnswered_of_exec (hjudged hb (t := .stream) rfl),
        fun hb => stageEntryAnswered_of_exec (hjudged hb (t := .channel) rfl),
        fun hb => stageEntryAnswered_of_exec (hjudged hb (t := .envelope) rfl),
        fun hb => stageEntryAnswered_of_exec ?_⟩
      have hword : wordAt (payload.drop 4) 0 = wordAt payload 4 := by
        simp only [wordAt, byteAt_drop]
      have hparam := hjudged hb (t := .param) rfl
      simp only [staged, readParam, hword] at hparam
      exact hparam
  · have hexec : exec .discardStage s = .next (discardStage payload s) :=
      exec_request_of_long (fun _ => rfl) hreset hin (two_le_of_requestInHand hin).2
    refine ⟨fun hpending => ?_, fun hpending => ?_⟩
    · rw [hexec, discardStage, if_pos hpending]
    · rw [hexec, discardStage, if_neg (by simp [hpending])]
      rfl

/-! ## Commits -/

/-- The judgements of a commit of its own table in their order (R187). -/
theorem commitAnswered_of_exec {sum check : Word} {valid refused : Bool} {finish : State → State} {s : State}
    {P : Prop} (hrefused : refused = true ↔ P)
    (h : exec .commit s = .next (judgeCommit sum check valid refused finish s)) :
    CommitAnswered sum check valid P (finish s) s := by
  rw [CommitAnswered, h]
  refine ⟨fun hsum => ?_, fun hsum hvalid => ?_, fun hsum hvalid hp => ?_, fun hsum hvalid hp => ?_⟩
  · simp only [judgeCommit, bne_iff_ne, ne_eq, hsum, not_false_eq_true, if_true]
    rfl
  · simp only [judgeCommit, hsum, bne_self_eq_false, Bool.false_eq_true, if_false, hvalid, Bool.not_false, if_true]
    rfl
  · simp only [judgeCommit, hsum, bne_self_eq_false, Bool.false_eq_true, if_false, hvalid, Bool.not_true,
      hrefused.2 hp, if_true]
  · have hnot : refused = false := Bool.eq_false_iff.2 (mt hrefused.1 hp)
    simp only [judgeCommit, hsum, bne_self_eq_false, Bool.false_eq_true, if_false, hvalid, Bool.not_true, hnot]

/-- A COMMIT of the staged table goes on to the judgements of that table (R187). -/
theorem commit_of_own_table {payload : List Byte} {t : TableName} {s : State} (hpending : s.agent.pendingCommit = none)
    (ht : readTable (byteAt payload 2) = some t) (hstage : s.agent.stage ≠ .empty)
    (hcode : stageCode s.agent.stage = tableCode t) :
    commit payload s = commitStage s.agent.stage (wordAt payload 3) s := by
  simp only [commit, hpending, Option.isSome_none, Bool.false_eq_true, if_false, ht, hstage, hcode, if_true]

theorem commitStage_stream (es : List (Fin 24 × StreamEntry)) (check : Word) (s : State) :
    commitStage (.stream es) check s =
      judgeCommit (tableSum streamBytes (overlay s.classifier.table es)) check
        (streamTableValid (overlay s.classifier.table es)) false (fun s => answer .done [] (applyStream es s)) s := rfl

theorem commitStage_channel (es : List (Fin 16 × ChannelEntry)) (check : Word) (s : State) :
    commitStage (.channel es) check s =
      judgeCommit (tableSum channelBytes (overlay s.channels.table es)) check
        (channelTableValid (overlay s.channels.table es)) (controlMode s.lean.mode && touchesRequired es s)
        (fun s => answer .done [] (applyChannel es s)) s := rfl

theorem commitStage_envelope (es : List (Fin 12 × EnvelopeRow)) (check : Word) (s : State) :
    commitStage (.envelope es) check s =
      judgeCommit (tableSum rowBytes (overlay s.envelope.rows es)) check
        (envelopeValid (overlay s.envelope.rows es)) false (finishEnvelope es) s := rfl

theorem commitStage_param (es : List (Fin 44 × Word)) (check : Word) (s : State) :
    commitStage (.param es) check s =
      judgeCommit (tableSum wordBytes (overlay s.agent.params es)) check
        (paramTableValid (overlay s.agent.params es)) (controlMode s.lean.mode)
        (fun s => answer .done [] (applyParam es s)) s := rfl

theorem controlMode_eq_true_iff (m : Mode) : controlMode m = true ↔ m = .active ∨ m = .recover := by
  cases m <;> simp [controlMode]

/-- Settles O47: the order of the judgements before the check, and the one lemma for the four tables from it on. -/
theorem commitIsJudgedInOrder : Obligations.CommitIsJudgedInOrder := by
  intro payload s hreset hin hlen check control
  have hexec : exec .commit s = .next (commit payload s) := exec_request_of_long (fun _ => rfl) hreset hin hlen
  refine ⟨fun hpending => ?_, fun hpending => ⟨fun ht => ?_, fun n hn => ⟨fun hstage => ?_, fun hstage hcode => ?_⟩, ?_⟩⟩
  · rw [hexec, commit, if_pos hpending]
  · rw [hexec]
    simp only [commit, hpending, Option.isSome_none, Bool.false_eq_true, if_false, ht]
  · rw [hexec]
    simp only [commit, hpending, Option.isSome_none, Bool.false_eq_true, if_false, hn, hstage, if_true]
  · rw [hexec]
    have hcode' : stageCode s.agent.stage ≠ tableCode n := by rwa [tableCode_of_readTable hn]
    simp only [commit, hpending, Option.isSome_none, Bool.false_eq_true, if_false, hn, hstage, hcode']
  · have hown {t : TableName} {b : Byte} {stage : Stage} (hb : byteAt payload 2 = b) (ht : readTable b = some t)
        (hstage : s.agent.stage = stage) (hne : stage ≠ .empty) (hcode : stageCode stage = tableCode t) :
        exec .commit s = .next (commitStage stage check s) := by
      subst hstage
      rw [hexec, commit_of_own_table hpending (hb ▸ ht) hne hcode]
    have hnever : false = true ↔ False := by simp
    refine ⟨fun es hb hs => ?_, fun es hb hs => ?_, fun es hb hs => ?_, fun es hb hs => ?_⟩
    · have h := hown hb (t := .stream) rfl hs (fun h => nomatch h) rfl
      rw [commitStage_stream] at h
      exact commitAnswered_of_exec hnever h
    · have h := hown hb (t := .channel) rfl hs (fun h => nomatch h) rfl
      rw [commitStage_channel] at h
      refine commitAnswered_of_exec ?_ h
      simp only [Bool.and_eq_true, controlMode_eq_true_iff, touchesRequired, List.any_eq_true, Bool.or_eq_true, control]
    · have h := hown hb (t := .envelope) rfl hs (fun h => nomatch h) rfl
      rw [commitStage_envelope] at h
      exact commitAnswered_of_exec hnever h
    · have h := hown hb (t := .param) rfl hs (fun h => nomatch h) rfl
      rw [commitStage_param] at h
      exact commitAnswered_of_exec (controlMode_eq_true_iff _) h

/-! ## Control -/

/-- The conditions of an entry to ACTIVE (R194). -/
theorem engageReady_eq_true_iff (s : State) :
    engageReady s = true ↔
      s.envelope.valid = true ∧ (∀ r, isRequired r = true → roleReady r s = true)
        ∧ (s.lean.mode = .standby → s.lock.state = .engaged) := by
  have hmode : (s.lean.mode != .standby || s.lock.state == .engaged) = true
      ↔ (s.lean.mode = .standby → s.lock.state = .engaged) := by
    rw [Bool.or_eq_true, bne_iff_ne, beq_iff_eq]
    exact Decidable.imp_iff_not_or.symm
  simp only [engageReady, Bool.and_eq_true, hmode, List.all_eq_true, isRequired, List.contains_iff_mem, and_assoc]

/-- ENGAGE_CONTROL in STANDBY and RECOVER (R194). -/
theorem engageResult_of_idle {s : State} (h : s.lean.mode = .standby ∨ s.lean.mode = .recover) :
    engageResult s =
      if !engageReady s then .notReady else if latchedAtSeverity 2 s then .refusedFault else .done := by
  rcases h with h | h <;> simp only [engageResult, h]

theorem engageResult_of_refused {s : State} (h : s.lean.mode = .bridge ∨ s.lean.mode = .active) :
    engageResult s = .refusedMode := by
  rcases h with h | h <;> simp only [engageResult, h]

/-- The move to RECOVER reports EXCURSION inactive (R88). -/
theorem moveToRecover_excursion {s : State} (hmode : s.lean.mode = .active) :
    faultRecord .excursion (moveToRecover s) =
      takenRecord (severity .excursion s) false (faultRecord .excursion s) :=
  (leaveActive_record (j := .excursion) fun u hu _ _ => wantStatus_excursion (.inl (by simp [hu]))).trans
    (if_pos ⟨rfl, hmode⟩)

theorem moveToRecover_mode {s : State} (hmode : s.lean.mode = .active) : (moveToRecover s).lean.mode = .recover :=
  have hne : (moveToRecover s).lean.mode ≠ .active := leaveActive_mode_ne_active wantStatus_reacts s
  ((moveToRecover_reacts s).mode.resolve_left fun h => hne (h.trans hmode)).2

/-- Settles O53: the result of ENGAGE_CONTROL by its conditions, RELEASE_CONTROL by the mode with the move to RECOVER,
and the refusal of RESET in control. -/
theorem controlRequestsFollowTheMode : Obligations.ControlRequestsFollowTheMode := by
  refine ⟨fun payload s hreset hin => ?_, fun payload s hreset => ⟨fun hin => ?_, fun hin hmode => ?_⟩⟩
  · have hexec : exec .engageControl s = .next (engageControl payload s) :=
      exec_request_of_long (fun _ => rfl) hreset hin (two_le_of_requestInHand hin).2
    have hrefuse {r : Result} (hr : engageResult s = r) (hne : r ≠ .done) :
        exec .engageControl s = .next (answer r [] s) := by
      rw [hexec, engageControl, hr, if_neg hne]
    refine ⟨fun hmode => hrefuse (engageResult_of_refused hmode) (by decide), fun hmode => ?_⟩
    have hresult := engageResult_of_idle hmode
    refine ⟨fun hready => hrefuse ?_ (by decide), fun hready hclean => hrefuse ?_ (by decide), fun hready hclean => ?_⟩
    · have hnot : engageReady s = false := Bool.eq_false_iff.2 (mt (engageReady_eq_true_iff s).1 hready)
      rw [hresult, hnot]
      rfl
    · have hlatched : latchedAtSeverity 2 s = true :=
        Bool.not_eq_false _ ▸ mt (latchedAtSeverity_eq_false_iff 2 s).1 hclean
      rw [hresult, (engageReady_eq_true_iff s).2 hready, hlatched]
      rfl
    · rw [(engageReady_eq_true_iff s).2 hready, (latchedAtSeverity_eq_false_iff 2 s).2 hclean] at hresult
      rw [hexec, engageControl, hresult]
      rfl
  · have hexec : exec .releaseControl s = .next (releaseControl payload s) :=
      exec_request_of_long (fun _ => rfl) hreset hin (two_le_of_requestInHand hin).2
    refine ⟨fun hmode => ⟨?_, moveToRecover_mode hmode, moveToRecover_excursion hmode, fun hlock => ?_⟩,
      fun hmode => ?_, fun hmode => ?_⟩
    · rw [hexec, releaseControl, hmode]
    · refine (moveToRecover_reacts s).lock_of_left hlock ?_
      rw [moveToRecover_mode hmode, hmode]
      decide
    · rw [hexec]
      rcases hmode with h | h <;> rw [releaseControl, h]
    · rw [hexec, releaseControl, hmode]
  · have hexec : exec .reset s = .next (resetRequest payload s) :=
      exec_request_of_long (fun _ => rfl) hreset hin (two_le_of_requestInHand hin).2
    rw [hexec, resetRequest, if_pos ((controlMode_eq_true_iff _).2 hmode)]

end Sys2Proof.Machine
end

section
/-! PROOF. Counters read and cleared (R196, R197). -/

namespace Sys2Proof.Machine

/-! ## A group cleared -/

/-- The channel group cleared: records with their counters at 0, and nothing else (R65, R196). -/
theorem clearGroup_channel (s : State) :
    ∃ r, clearGroup .channel s = { s with channels := { s.channels with records := r } }
      ∧ ∀ c, look r c = { look s.channels.records c with accepted := 0, duplicate := 0, gap := 0, short := 0 } :=
  ⟨_, rfl, fun c => by simp [look]⟩

/-- The counters of a cleared group are 0, the occurrence counts of MGMT excepted (R196, R178). -/
theorem groupCounters_clearGroup_same {g : CounterGroup} (hg : g ≠ .mgmt) (s : State) :
    ∀ c ∈ groupCounters g (clearGroup g s), c = 0 := by
  have hzeros {n : Nat} {cs : List Counter} (h : cs = List.replicate n 0) : ∀ c ∈ cs, c = 0 :=
    fun c hc => List.eq_of_mem_replicate (h ▸ hc)
  cases g with
  | mgmt => exact absurd rfl hg
  | cockpitPort => exact hzeros (n := 6) rfl
  | chassisPort => exact hzeros (n := 6) rfl
  | lean => exact hzeros (n := 10) rfl
  | drive => exact hzeros (n := 14) rfl
  | stream =>
    refine hzeros (n := 26) ?_
    have hmatched : (List.finRange 24).map (look (clearGroup .stream s).classifier.matched) = List.replicate 24 0 :=
      List.eq_replicate_iff.2 ⟨by rw [List.length_map, List.length_finRange], fun c hc => by
        obtain ⟨i, -, rfl⟩ := List.mem_map.1 hc
        exact look_replicate i 0⟩
    exact congrArg (· ++ [0, 0]) hmatched
  | channel =>
    obtain ⟨r, hr, hlook⟩ := clearGroup_channel s
    rw [hr]
    simp [groupCounters, hlook]

/-- A cleared group leaves the counters of the other groups. -/
theorem groupCounters_clearGroup_of_ne {g h : CounterGroup} (hne : h ≠ g) (s : State) :
    groupCounters h (clearGroup g s) = groupCounters h s := by
  cases g with
  | cockpitPort => cases h <;> first | rfl | exact absurd rfl hne
  | chassisPort => cases h <;> first | rfl | exact absurd rfl hne
  | stream => cases h <;> first | rfl | exact absurd rfl hne
  | channel =>
    obtain ⟨r, hr, -⟩ := clearGroup_channel s
    rw [hr]
    cases h <;> first | rfl | exact absurd rfl hne
  | lean => cases h <;> first | rfl | exact absurd rfl hne
  | drive => cases h <;> first | rfl | exact absurd rfl hne
  | mgmt => cases h <;> first | rfl | exact absurd rfl hne

theorem OnlyCountersDiffer.refl (s : State) : OnlyCountersDiffer s s :=
  ⟨rfl, rfl, rfl, rfl, rfl, fun _ => ⟨rfl, rfl⟩, rfl, fun _ => rfl, rfl, rfl, fun _ => rfl, rfl, rfl, ⟨rfl, rfl⟩,
    fun _ => rfl, rfl, rfl, rfl⟩

theorem clearPort_onlyCounters (p : Port) (s : State) : OnlyCountersDiffer s (clearPort p s) := by
  refine ⟨rfl, rfl, rfl, rfl, rfl, fun q => ?_, rfl, fun q => ?_, rfl, rfl, fun _ => rfl, rfl, rfl, ⟨rfl, rfl⟩,
    fun _ => rfl, rfl, rfl, rfl⟩
  · cases p <;> cases q <;> exact ⟨rfl, rfl⟩
  · cases p <;> cases q <;> rfl

/-- Clearing a group touches event counters only (R28, R65, R109, R123, R141, R197). -/
theorem clearGroup_onlyCounters (g : CounterGroup) (s : State) : OnlyCountersDiffer s (clearGroup g s) := by
  cases g with
  | cockpitPort => exact clearPort_onlyCounters .cockpit s
  | chassisPort => exact clearPort_onlyCounters .chassis s
  | channel =>
    obtain ⟨r, hr, hlook⟩ := clearGroup_channel s
    rw [hr]
    exact ⟨rfl, rfl, rfl, rfl, rfl, fun _ => ⟨rfl, rfl⟩, rfl, fun _ => rfl, rfl, rfl, fun c => by simp only [hlook], rfl, rfl,
      ⟨rfl, rfl⟩, fun _ => rfl, rfl, rfl, rfl⟩
  | drive =>
    refine ⟨rfl, rfl, rfl, rfl, rfl, fun _ => ⟨rfl, rfl⟩, rfl, fun _ => rfl, rfl, rfl, fun _ => rfl, rfl, rfl,
      ⟨rfl, rfl⟩, fun d => ?_, rfl, rfl, rfl⟩
    cases d <;> rfl
  | stream | lean | mgmt =>
    exact ⟨rfl, rfl, rfl, rfl, rfl, fun _ => ⟨rfl, rfl⟩, rfl, fun _ => rfl, rfl, rfl, fun _ => rfl, rfl, rfl,
      ⟨rfl, rfl⟩, fun _ => rfl, rfl, rfl, rfl⟩

/-! ## The requests -/

/-- The data of a READ_COUNTERS reply (R196). -/
theorem countersData_eq (group first : Byte) (cs : List Counter) :
    countersData group first cs =
      [group, first, BitVec.ofNat 8 (min 12 (cs.length - first.toNat))]
        ++ ((cs.drop first.toNat).take 12).flatMap wordBytes := by
  have hlen : ((cs.drop first.toNat).take 12).length = min 12 (cs.length - first.toNat) := by
    rw [List.length_take, List.length_drop]
  rw [← hlen]
  rfl

/-- Settles O51: the two requests by the group byte and the first position; a cleared group block by block. -/
theorem counterRequestsReadAndClear : Obligations.CounterRequestsReadAndClear := by
  refine ⟨fun payload s hreset => ⟨fun hin hlen => ?_, fun hin hlen => ?_⟩, ?_⟩
  · have hexec : exec .readCounters s = .next (readCounters payload s) :=
      exec_request_of_long (fun _ => rfl) hreset hin hlen
    rw [hexec]
    refine ⟨fun hg => ?_, fun g hg => ⟨fun hout => ?_, fun hfirst => ?_⟩⟩
    · simp only [readCounters, hg]
    · simp only [readCounters, hg, hout, if_true]
    · simp only [readCounters, hg, Nat.not_le.2 hfirst, if_false, countersData_eq]
  · have hexec : exec .clearCounters s = .next (clearCounters payload s) :=
      exec_request_of_long (fun _ => rfl) hreset hin hlen
    rw [hexec]
    refine ⟨fun hg => ?_, fun g hg => ?_⟩
    · simp only [clearCounters, hg]
    · simp only [clearCounters, hg]
  · intro g s t
    exact ⟨fun hg => groupCounters_clearGroup_same hg s, rfl, fun h hh => groupCounters_clearGroup_of_ne hh s,
      clearGroup_onlyCounters g s⟩

end Sys2Proof.Machine
end

section
/-! PROOF. What queueing and picking leave of a buffer: of one that stands in no queue, and of one that waits on
PRIORITY (R38 to R44, R172), with the ack timers they start (R130). -/

namespace Sys2Proof.Machine

/-! ## Slots told of their buffers -/

/-- On the way from `s` to `t` an AWAITING slot with a buffer may have started its ack timer, and the slots are
otherwise as before (R130). -/
structure Tells (s t : State) : Prop where
  params : t.agent.params = s.agent.params
  slot : ∀ d, t.drives.get d = s.drives.get d
    ∨ (s.drives.get d).state = .awaiting ∧ (s.drives.get d).retained ≠ none
      ∧ t.drives.get d = { s.drives.get d with timer := some (ackTimeout s) }

theorem Tells.of_same {s t : State} (hparams : t.agent.params = s.agent.params) (hdrives : t.drives = s.drives) :
    Tells s t := ⟨hparams, fun d => .inl (by rw [hdrives])⟩

theorem Tells.refl (s : State) : Tells s s := .of_same rfl rfl

theorem Tells.trans {s t u : State} (h : Tells s t) (k : Tells t u) : Tells s u := by
  have htimeout : ackTimeout t = ackTimeout s := by simp only [ackTimeout, param, h.params]
  refine ⟨k.params.trans h.params, fun d => ?_⟩
  rcases h.slot d with hsame | ⟨hstate, hretained, htold⟩
  · rcases k.slot d with ksame | ⟨kstate, kretained, ktold⟩
    · exact .inl (ksame.trans hsame)
    · rw [hsame] at kstate kretained ktold
      exact .inr ⟨kstate, kretained, htimeout ▸ ktold⟩
  · refine .inr ⟨hstate, hretained, ?_⟩
    rcases k.slot d with ksame | ⟨-, -, ktold⟩
    · exact ksame.trans htold
    · rw [ktold, htold, htimeout]

/-- A slot that retains no buffer or is not AWAITING is as before. -/
theorem Tells.slot_of_untold {s t : State} (h : Tells s t) {d : Drive}
    (hd : (s.drives.get d).state ≠ .awaiting ∨ (s.drives.get d).retained = none) :
    t.drives.get d = s.drives.get d :=
  (h.slot d).resolve_right fun ⟨hstate, hretained, _⟩ => hd.elim (· hstate) hretained

/-- A slot told of its buffer stays so. -/
theorem Tells.timer_of_started {s t : State} (h : Tells s t) {d : Drive}
    (hd : (s.drives.get d).timer = some (ackTimeout s)) : (t.drives.get d).timer = some (ackTimeout s) := by
  rcases h.slot d with hsame | ⟨-, -, htold⟩
  · rw [hsame, hd]
  · rw [htold]

theorem setSlot_of_eq {d : Drive} {x : DriveSlot} {s : State} (e : Drive) :
    (setSlot d x s).drives.get e = if d = e then x else s.drives.get e := drives_get_set s.drives d e x

theorem tellSlot_tells (d : Drive) (t : Token) (s : State) : Tells s (tellSlot d t s) := by
  unfold tellSlot
  dsimp only
  split
  next htold =>
    refine ⟨rfl, fun e => ?_⟩
    rw [setSlot_of_eq]
    split
    next heq =>
      subst heq
      exact .inr ⟨htold.1, by simp [htold.2], rfl⟩
    next => exact .inl rfl
  next => exact .refl s

theorem releaseBuffer_tells (b : Token) (s : State) : Tells s (releaseBuffer b s) :=
  .of_same (by rw [(releaseBuffer_traffic b s).agent]) (releaseBuffer_drives b s)

theorem ageOut_tells (p : Port) (t : Token) (rest : List Token) (s : State) : Tells s (ageOut p t rest s) := by
  have htaken (x : Transmitter) : Tells s (setTx p x s) := .of_same rfl rfl
  unfold ageOut
  dsimp only
  split
  · exact (htaken _).trans (releaseBuffer_tells ..)
  · have hstate (u : State) : Tells u (setBufferState t .retained u) := .of_same rfl rfl
    exact ((htaken _).trans (hstate _)).trans (tellSlot_tells ..)

theorem ageHeads_tells (p : Port) (q : List Token) (s : State) : Tells s (ageHeads p q s) := by
  induction q generalizing s with
  | nil => exact .refl s
  | cons t rest ih =>
    unfold ageHeads
    split
    · exact (ageOut_tells p t rest s).trans (ih _)
    · exact .refl s

theorem beginTransmission_drives (p : Port) (b : Token) (s : State) :
    (beginTransmission p b s).drives = s.drives := by
  unfold beginTransmission
  dsimp only
  split <;> rfl

/-! ## The choice of the arbiter -/

/-- The choice leaves an idle port with empty queues, or takes the head of one queue (R42). -/
theorem choose_cases (p : Port) (s : State) :
    ((s.tx.get p).priority = [] ∧ (s.tx.get p).transit = [] ∧ choose p s = s)
      ∨ ∃ c z, choose p s = beginTransmission p c (setTx p z s) ∧ z.sent = (s.tx.get p).sent
        ∧ ((s.tx.get p).priority = c :: z.priority ∧ z.transit = (s.tx.get p).transit
          ∨ (s.tx.get p).transit = c :: z.transit ∧ z.priority = (s.tx.get p).priority) := by
  have hpriority {c : Token} {rest : List Token} (hp : (s.tx.get p).priority = c :: rest)
      (h : (s.tx.get p).transit = [] ∨ (s.tx.get p).runCount.toNat < priorityBurst s) :
      ∃ c z, choose p s = beginTransmission p c (setTx p z s) ∧ z.sent = (s.tx.get p).sent
        ∧ ((s.tx.get p).priority = c :: z.priority ∧ z.transit = (s.tx.get p).transit
          ∨ (s.tx.get p).transit = c :: z.transit ∧ z.priority = (s.tx.get p).priority) :=
    ⟨c, _, choose_of_priority hp h, rfl, .inl ⟨hp, rfl⟩⟩
  cases hp : (s.tx.get p).priority with
  | nil =>
    cases ht : (s.tx.get p).transit with
    | nil => exact .inl ⟨rfl, rfl, choose_of_empty hp ht⟩
    | cons c rest => exact .inr ⟨c, _, choose_of_transit ht (.inl hp), rfl, .inr ⟨rfl, hp⟩⟩
  | cons c rest =>
    rw [← hp]
    cases ht : (s.tx.get p).transit with
    | nil => exact .inr (ht ▸ hpriority hp (.inl ht))
    | cons e others =>
      rw [← ht]
      by_cases hrun : (s.tx.get p).runCount.toNat < priorityBurst s
      · exact .inr (hpriority hp (.inr hrun))
      · exact .inr ⟨e, _, choose_of_transit ht (.inr (Nat.not_lt.1 hrun)), rfl, .inr ⟨ht, rfl⟩⟩

theorem choose_tells (p : Port) (s : State) : Tells s (choose p s) := by
  refine .of_same (by rw [(choose_traffic p s).agent]) ?_
  obtain ⟨-, -, hsame⟩ | ⟨c, z, hchoose, -⟩ := choose_cases p s
  · rw [hsame]
  · rw [hchoose, beginTransmission_drives]
    rfl

theorem pick_tells (p : Port) (s : State) : Tells s (pick p s) :=
  (ageHeads_tells p _ s).trans (choose_tells p _)

theorem joined_tells (p : Port) (q : Queue) (b : Token) (s : State) : Tells s (joined p q b s) := by
  cases q <;> exact .of_same rfl rfl

theorem enqueue_tells (p : Port) (q : Queue) (b : Token) (s : State) : Tells s (enqueue p q b s) := by
  rw [enqueue_eq]
  split
  · exact (joined_tells p q b s).trans (pick_tells p _)
  · exact joined_tells p q b s

/-! ## The bytes that go out -/

/-- The state record does not see traffic (R174). -/
theorem TrafficOnly.stateRecord {s t : State} (h : TrafficOnly s t) : Machine.stateRecord t = Machine.stateRecord s := by
  have hset (k : Fin 16) : look t.monitor.faults k = look s.monitor.faults k := by rw [h.faults]
  simp only [Machine.stateRecord, recordFlags, activeSet, latchedSet, hset, h.lean, h.lock, h.classifier, h.envelope,
    h.agent, h.reaction.quietPorts, h.resets, h.node]

/-- The bytes with which a buffer goes into transmission: the status frame in hand is filled (R44, R172). -/
def sentBytes (p : Port) (b : Token) (s : State) : List Byte :=
  if p = .cockpit ∧ s.monitor.statusInHand = some b then withCheck ((buffer b s).bytes.take 4 ++ stateRecord s)
  else (buffer b s).bytes

theorem sentBytes_of_other {p : Port} {b : Token} {s : State} (h : ¬(p = .cockpit ∧ s.monitor.statusInHand = some b)) :
    sentBytes p b s = (buffer b s).bytes := if_neg h

theorem buffer_beginTransmission (p : Port) (b : Token) (s : State) :
    buffer b (beginTransmission p b s) = { buffer b s with state := .sending, bytes := sentBytes p b s } := by
  unfold sentBytes
  split
  next h => exact buffer_beginTransmission_of_status h
  next h => exact buffer_beginTransmission_of_other h

theorem TrafficOnly.sentBytes {s t : State} (h : TrafficOnly s t) (p : Port) {b : Token}
    (hb : (buffer b t).bytes = (buffer b s).bytes) : Machine.sentBytes p b t = Machine.sentBytes p b s := by
  simp only [Machine.sentBytes, h.statusInHand, h.stateRecord, hb]

/-! ## A buffer in no queue -/

/-- The buffer stands in neither queue of the transmitter. -/
def OutOf (b : Token) (x : Transmitter) : Prop := b ∉ x.priority ∧ b ∉ x.transit

theorem outOf_of_not_queued {b : Token} {s : State} (h : b ∉ queuedTokens s) (p : Port) : OutOf b (s.tx.get p) := by
  simp only [queuedTokens, List.mem_append, not_or] at h
  obtain ⟨⟨⟨hcp, hct⟩, hsp⟩, hst⟩ := h
  cases p with
  | cockpit => exact ⟨hcp, hct⟩
  | chassis => exact ⟨hsp, hst⟩

section picks
variable {b c : Token} {p : Port} {s : State}

/-- A pick takes from the queues of its port and adds nothing (R40). -/
theorem pick_tx (p : Port) (s : State) : ∃ z : Transmitter, (pick p s).tx = s.tx.set p z
    ∧ z.sent = (s.tx.get p).sent ∧ z.priority ⊆ (s.tx.get p).priority ∧ z.transit ⊆ (s.tx.get p).transit := by
  have haged := ageHeads_tx (p := p) (s := s) rfl
  have hdrop := (List.dropWhile_sublist (tooOld s) (l := (s.tx.get p).transit)).subset
  unfold pick
  generalize ageHeads p (s.tx.get p).transit s = u at haged
  obtain ⟨-, -, hsame⟩ | ⟨c, z, hchoose, hsent, hqueues⟩ := choose_cases p u
  · rw [hsame, haged]
    exact ⟨_, rfl, rfl, List.Subset.refl _, hdrop⟩
  · rw [hchoose, beginTransmission_tx, setTx_tx, ports_set_set, ports_get_set_same, haged, ports_set_set]
    rw [haged, ports_get_set_same] at hsent hqueues
    refine ⟨_, rfl, hsent, ?_⟩
    rcases hqueues with ⟨hp, ht⟩ | ⟨ht, hp⟩
    · dsimp only at hp ht ⊢
      rw [hp, ht]
      exact ⟨List.subset_cons_self _ _, hdrop⟩
    · dsimp only at hp ht ⊢
      rw [hp]
      exact ⟨List.Subset.refl _, fun x hx => hdrop (ht ▸ List.mem_cons_of_mem _ hx)⟩

theorem pick_outOf (q : Port) (h : OutOf b (s.tx.get q)) : OutOf b ((pick p s).tx.get q) := by
  obtain ⟨z, htx, -, hp, ht⟩ := pick_tx p s
  rw [htx, ports_get_set]
  split
  next heq =>
    subst heq
    exact ⟨fun hb => h.1 (hp hb), fun hb => h.2 (ht hb)⟩
  next => exact h

/-- A pick leaves a buffer that stands in no queue of its port. -/
theorem buffer_pick_of_outOf (h : OutOf b (s.tx.get p)) : buffer b (pick p s) = buffer b s := by
  have haged := ageHeads_tx (p := p) (s := s) rfl
  have hbuffer := buffer_ageHeads_of_notMem h.2 p s
  unfold pick
  generalize ageHeads p (s.tx.get p).transit s = u at haged hbuffer
  obtain ⟨-, -, hsame⟩ | ⟨c, z, hchoose, -, hqueues⟩ := choose_cases p u
  · rw [hsame, hbuffer]
  · have hne : b ≠ c := by
      rintro rfl
      rw [haged, ports_get_set_same] at hqueues
      rcases hqueues with ⟨hp, -⟩ | ⟨ht, -⟩
      · exact h.1 (by rw [hp]; exact List.mem_cons_self)
      · have hin : b ∈ (s.tx.get p).transit.dropWhile (tooOld s) := by
          dsimp only at ht
          rw [ht]
          exact List.mem_cons_self
        exact h.2 ((List.dropWhile_sublist _).subset hin)
    rw [hchoose, buffer_beginTransmission_of_ne hne]
    exact hbuffer

/-- A pick leaves a buffer waiting on PRIORITY as it is, or takes it into transmission (R42, R44). -/
theorem pick_place (hb : b ∈ (s.tx.get p).priority) (ht : b ∉ (s.tx.get p).transit) :
    (b ∈ ((pick p s).tx.get p).priority ∧ buffer b (pick p s) = buffer b s)
      ∨ (((pick p s).tx.get p).sending = some b
        ∧ buffer b (pick p s) = { buffer b s with state := .sending, bytes := sentBytes p b s }) := by
  have haged := ageHeads_tx (p := p) (s := s) rfl
  have hbuffer := buffer_ageHeads_of_notMem ht p s
  have htraffic := ageHeads_traffic p (s.tx.get p).transit s
  unfold pick
  generalize ageHeads p (s.tx.get p).transit s = u at haged hbuffer htraffic
  have hpriority : (u.tx.get p).priority = (s.tx.get p).priority := by rw [haged, ports_get_set_same]
  have htransit : b ∉ (u.tx.get p).transit := by
    rw [haged, ports_get_set_same]
    exact fun h => ht ((List.dropWhile_sublist _).subset h)
  rw [← hpriority] at hb
  obtain ⟨hempty, -⟩ | ⟨c, z, hchoose, -, hqueues⟩ := choose_cases p u
  · rw [hempty] at hb
    exact absurd hb List.not_mem_nil
  · rw [hchoose, beginTransmission_tx, ports_get_set_same, setTx_tx, ports_get_set_same]
    by_cases hc : b = c
    · subst hc
      have hsame : TrafficOnly s (setTx p z u) := htraffic.trans (setTx_traffic p z u)
      have hbytes : (buffer b (setTx p z u)).bytes = (buffer b s).bytes := congrArg Buffer.bytes hbuffer
      refine .inr ⟨rfl, ?_⟩
      rw [buffer_beginTransmission, hsame.sentBytes p hbytes, buffer_setTx, hbuffer]
    · refine .inl ⟨?_, ?_⟩
      · rcases hqueues with ⟨hp, -⟩ | ⟨-, hp⟩
        · rw [hp] at hb
          exact List.mem_of_ne_of_mem hc hb
        · exact hp ▸ hb
      · rw [buffer_beginTransmission_of_ne hc, buffer_setTx, hbuffer]

/-! ## Queueing -/

/-- The transmitter with a buffer at the tail of a queue (R38). -/
def withTail (q : Queue) (b : Token) (x : Transmitter) : Transmitter :=
  match q with
  | .priority => { x with priority := x.priority ++ [b] }
  | .transit => { x with transit := x.transit ++ [b] }

theorem joined_tx (p : Port) (q : Queue) (b : Token) (s : State) :
    (joined p q b s).tx = s.tx.set p (withTail q b (s.tx.get p)) := by
  cases q <;> rfl

theorem buffer_joined (p : Port) (q : Queue) (b c : Token) (s : State) :
    buffer c (joined p q b s) = if b = c then queuedBuffer p (buffer b s) else buffer c s := by
  cases q <;> exact buffer_putBuffer b c _ s

theorem joined_traffic (p : Port) (q : Queue) (b : Token) (s : State) : TrafficOnly s (joined p q b s) :=
  (putBuffer_traffic b _ s).trans (appendTo_traffic p q b _)

theorem joined_outOf {q : Queue} (hne : c ≠ b) (e : Port) (h : OutOf b (s.tx.get e)) :
    OutOf b ((joined p q c s).tx.get e) := by
  rw [joined_tx, ports_get_set]
  split
  next heq =>
    subst heq
    obtain ⟨hp, ht⟩ := h
    cases q <;> simp [OutOf, withTail, hp, ht, hne.symm]
  next => exact h

/-- A buffer added to a queue of a busy transmitter joins its tail (R38). -/
theorem enqueue_of_busy {q : Queue} (h : (s.tx.get p).sending ≠ none) : enqueue p q b s = joined p q b s := by
  rw [enqueue_eq, if_neg h]

theorem enqueue_of_idle {q : Queue} (h : (s.tx.get p).sending = none) :
    enqueue p q b s = pick p (joined p q b s) := by
  rw [enqueue_eq, if_pos h]

theorem enqueue_outOf {q : Queue} (hne : c ≠ b) (e : Port) (h : OutOf b (s.tx.get e)) :
    OutOf b ((enqueue p q c s).tx.get e) := by
  rw [enqueue_eq]
  split
  · exact pick_outOf e (joined_outOf hne e h)
  · exact joined_outOf hne e h

/-- Queueing leaves another buffer that stands in no queue of the port. -/
theorem buffer_enqueue_of_outOf {q : Queue} (hne : c ≠ b) (h : OutOf b (s.tx.get p)) :
    buffer b (enqueue p q c s) = buffer b s := by
  have hjoined : buffer b (joined p q c s) = buffer b s := by rw [buffer_joined, if_neg hne]
  rw [enqueue_eq]
  split
  · rw [buffer_pick_of_outOf (joined_outOf hne p h), hjoined]
  · exact hjoined

/-- Queueing counts no frame as sent and leaves the other port alone. -/
theorem enqueue_tx (p : Port) (q : Queue) (b : Token) (s : State) :
    ∃ z : Transmitter, (enqueue p q b s).tx = s.tx.set p z ∧ z.sent = (s.tx.get p).sent := by
  have htail : (withTail q b (s.tx.get p)).sent = (s.tx.get p).sent := by cases q <;> rfl
  rw [enqueue_eq]
  split
  · obtain ⟨z, htx, hsent, -⟩ := pick_tx p (joined p q b s)
    rw [joined_tx, ports_set_set] at htx
    rw [joined_tx, ports_get_set_same] at hsent
    exact ⟨z, htx, hsent.trans htail⟩
  · exact ⟨_, joined_tx p q b s, htail⟩

theorem sent_enqueue (q : Queue) (e : Port) : ((enqueue p q b s).tx.get e).sent = (s.tx.get e).sent := by
  obtain ⟨z, htx, hsent⟩ := enqueue_tx p q b s
  rw [htx, ports_get_set]
  split
  next heq => rw [hsent, heq]
  next => rfl

/-- A buffer added to PRIORITY waits there as QUEUED or has gone into transmission (R38, R44). -/
theorem enqueue_place (ht : b ∉ (s.tx.get p).transit) :
    (b ∈ ((enqueue p .priority b s).tx.get p).priority
        ∧ buffer b (enqueue p .priority b s) = queuedBuffer p (buffer b s))
      ∨ (((enqueue p .priority b s).tx.get p).sending = some b
        ∧ buffer b (enqueue p .priority b s) =
          { queuedBuffer p (buffer b s) with state := .sending, bytes := sentBytes p b s }) := by
  have hin : b ∈ ((joined p .priority b s).tx.get p).priority := by
    rw [joined_tx, ports_get_set_same]
    exact List.mem_append_right _ List.mem_cons_self
  have htransit : b ∉ ((joined p .priority b s).tx.get p).transit := by
    rw [joined_tx, ports_get_set_same]
    exact ht
  have hbuffer : buffer b (joined p .priority b s) = queuedBuffer p (buffer b s) := by
    rw [buffer_joined, if_pos rfl]
  have hbytes : sentBytes p b (joined p .priority b s) = sentBytes p b s :=
    (joined_traffic p .priority b s).sentBytes p (by rw [hbuffer]; rfl)
  rw [enqueue_eq]
  split
  · have h := pick_place hin htransit
    rwa [hbuffer, hbytes] at h
  · exact .inl ⟨hin, hbuffer⟩

end picks

/-- Settles O19: at a busy transmitter the tail of the queue; at an idle one with empty queues the pick finds that
buffer alone. -/
theorem addingABufferQueuesOrPicksIt : Obligations.AddingABufferQueuesOrPicksIt := by
  intro p q b s x
  refine ⟨fun hbusy => ?_, fun hidle hprio htransit hage => ?_⟩
  · rw [enqueue_of_busy hbusy, joined_tx, ports_get_set_same, buffer_joined, if_pos rfl]
    refine ⟨by cases q <;> rfl, rfl, fun c hc => ?_⟩
    rw [buffer_joined, if_neg hc.symm]
  · rw [enqueue_of_idle hidle]
    have hget : (joined p q b s).tx.get p = withTail q b x := by rw [joined_tx, ports_get_set_same]
    have hyoung : q = .transit → tooOld (joined p q b s) b = false := by
      intro hq
      have htraffic := joined_traffic p q b s
      have hbuffer : buffer b (joined p q b s) = queuedBuffer p (buffer b s) := by rw [buffer_joined, if_pos rfl]
      have hlimit : transitAge (joined p q b s) = transitAge s := htraffic.param 1
      rw [tooOld, age, hbuffer, hlimit, htraffic.now]
      exact decide_eq_false (Nat.not_lt.2 (hage hq))
    unfold pick
    generalize joined p q b s = u at hget hyoung
    cases q with
    | priority =>
      have hp : (u.tx.get p).priority = [b] := by rw [hget, withTail, hprio]; rfl
      have ht : (u.tx.get p).transit = [] := by rw [hget, withTail, htransit]
      rw [ht, ageHeads, choose_of_priority hp (.inl ht), beginTransmission_tx, ports_get_set_same, setTx_tx,
        ports_get_set_same, buffer_beginTransmission]
      exact ⟨rfl, rfl, ht, rfl⟩
    | transit =>
      have hp : (u.tx.get p).priority = [] := by rw [hget, withTail, hprio]
      have ht : (u.tx.get p).transit = [b] := by rw [hget, withTail, htransit]; rfl
      rw [ht, ageHeads_cons_of_not_tooOld (hyoung rfl), choose_of_transit ht (.inl hp), beginTransmission_tx,
        ports_get_set_same, setTx_tx, ports_get_set_same, buffer_beginTransmission]
      exact ⟨rfl, hp, rfl, rfl⟩

end Sys2Proof.Machine
end

section
/-! PROOF. What reports, taps and the frames they originate leave of a buffer that stands in no queue, and where a status
frame stands that they originate (R33, R35, R170, R171, R172). -/

namespace Sys2Proof.Machine

/-! ## A status frame launched -/

/-- The state with the status frame's header in its buffer, in hand and about to be queued (R171). -/
def headed (b : Token) (s : State) : State :=
  let built := setBytes b (headerBytes 7 (statusStream s.node) s.monitor.statusSeq 18) s
  { built with
    monitor := { built.monitor with
      statusSeq := built.monitor.statusSeq + 1, statusWanted := false, statusInHand := some b } }

theorem launchStatus_eq (b : Token) (s : State) :
    launchStatus b s = enqueue .cockpit .priority b (headed b s) := rfl

theorem buffer_headed (b c : Token) (s : State) :
    buffer c (headed b s) =
      if b = c then { buffer b s with bytes := headerBytes 7 (statusStream s.node) s.monitor.statusSeq 18 }
      else buffer c s :=
  buffer_setBytes b c _ s

theorem launchStatus_tells (b : Token) (s : State) : Tells s (launchStatus b s) := by
  rw [launchStatus_eq]
  have hheaded : Tells s (headed b s) := .of_same rfl rfl
  exact hheaded.trans (enqueue_tells ..)

/-! ## Chains of reactions -/

/-- Reports start ack timers and leave the slots otherwise alone (R130). -/
theorem Reacts.tells {s t : State} (h : Reacts s t) : Tells s t := by
  induction h with
  | refl | fall | want | notice => exact .of_same rfl rfl
  | trans _ _ ih ih' => exact ih.trans ih'
  | rise _ _ _ _ ih => exact ⟨ih.params, ih.slot⟩
  | inhibit s =>
    rw [lockInhibit_eq]
    exact .of_same rfl rfl
  | leave _ _ ih =>
    rw [lockModeLeft_eq]
    exact ⟨ih.params, ih.slot⟩
  | @originate s u b _ _ _ ih =>
    have hheld : Tells s u := ⟨ih.params, ih.slot⟩
    exact hheld.trans (launchStatus_tells ..)

/-- Reports touch no queue of the chassis port (R171). -/
theorem Reacts.chassis {s t : State} (h : Reacts s t) : t.tx.chassis = s.tx.chassis := by
  induction h with
  | refl | fall | want | notice => rfl
  | trans _ _ ih ih' => exact ih'.trans ih
  | rise _ _ _ _ ih => exact ih
  | inhibit s => rw [lockInhibit_eq]
  | leave _ _ ih =>
    rw [lockModeLeft_eq]
    exact ih
  | originate _ _ _ ih =>
    obtain ⟨z, htx, -⟩ := enqueue_tx .cockpit .priority _ (headed _ _)
    rw [launchStatus_eq, htx]
    exact ih

/-- Reports count no frame as sent. -/
theorem Reacts.sent {s t : State} (h : Reacts s t) (p : Port) : (t.tx.get p).sent = (s.tx.get p).sent := by
  induction h with
  | refl | fall | want | notice => rfl
  | trans _ _ ih ih' => exact ih'.trans ih
  | rise _ _ _ _ ih => exact ih
  | inhibit s => rw [lockInhibit_eq]
  | leave _ _ ih =>
    rw [lockModeLeft_eq]
    exact ih
  | originate _ _ _ ih =>
    rw [launchStatus_eq, sent_enqueue]
    exact ih

/-- With no buffer FREE, reports leave every buffer (R33). -/
theorem Reacts.buffers_of_none {s t : State} (h : Reacts s t) (hnone : lowestFree s = none) :
    t.pool.buffers = s.pool.buffers ∧ lowestFree t = none := by
  have hsame {u v : State} (h : v.pool.buffers = u.pool.buffers) : lowestFree v = lowestFree u := by
    simp only [lowestFree, buffer, h]
  induction h with
  | refl | fall | want | notice => exact ⟨rfl, hnone⟩
  | trans _ _ ih ih' =>
    obtain ⟨hbuffers, hnone'⟩ := ih hnone
    obtain ⟨hbuffers', hnone''⟩ := ih' hnone'
    exact ⟨hbuffers'.trans hbuffers, hnone''⟩
  | rise _ _ _ _ ih => exact ih hnone
  | inhibit s =>
    rw [lockInhibit_eq]
    exact ⟨rfl, hnone⟩
  | leave _ _ ih =>
    rw [lockModeLeft_eq]
    exact ih hnone
  | originate hfree =>
    rw [hnone] at hfree
    cases hfree

/-- Buffer `b` is as `y` and stands in no queue of the cockpit port. -/
structure Aside (b : Token) (y : Buffer) (s : State) : Prop where
  buffer : Machine.buffer b s = y
  cockpit : OutOf b s.tx.cockpit

/-- Reports leave a buffer alone that is not FREE and stands in no queue of the cockpit port. -/
theorem Reacts.aside {s t : State} (h : Reacts s t) {b : Token} {y : Buffer} (hy : y.state ≠ .free)
    (hb : Aside b y s) : Aside b y t := by
  induction h with
  | refl | fall | want | notice => exact ⟨hb.buffer, hb.cockpit⟩
  | trans _ _ ih ih' => exact ih' (ih hb)
  | rise _ _ _ _ ih =>
    obtain ⟨hbuffer, hcockpit⟩ := ih ⟨hb.buffer, hb.cockpit⟩
    exact ⟨hbuffer, hcockpit⟩
  | inhibit s =>
    rw [lockInhibit_eq]
    exact ⟨hb.buffer, hb.cockpit⟩
  | leave _ _ ih =>
    rw [lockModeLeft_eq]
    obtain ⟨hbuffer, hcockpit⟩ := ih ⟨hb.buffer, hb.cockpit⟩
    exact ⟨hbuffer, hcockpit⟩
  | @originate s u c hfree _ _ ih =>
    have hne : c ≠ b := by
      rintro rfl
      exact hy (hb.buffer ▸ (lowestFree_spec hfree).1)
    have hheld : Aside b y (holdForOrigin c s) :=
      ⟨(buffer_putBuffer c b _ s).trans ((if_neg hne).trans hb.buffer), hb.cockpit⟩
    obtain ⟨hbuffer, hcockpit⟩ := ih hheld
    have hheaded : OutOf b ((headed c u).tx.get .cockpit) := hcockpit
    rw [launchStatus_eq]
    refine ⟨?_, enqueue_outOf hne .cockpit hheaded⟩
    rw [buffer_enqueue_of_outOf hne hheaded, buffer_headed, if_neg hne, hbuffer]

/-- Reports take no buffer for a status frame that is not FREE. -/
theorem Reacts.hand {s t : State} (h : Reacts s t) {b : Token} {y : Buffer} (hy : y.state ≠ .free)
    (hb : Aside b y s) (hhand : s.monitor.statusInHand ≠ some b) : t.monitor.statusInHand ≠ some b := by
  induction h with
  | refl | fall | want | notice => exact hhand
  | trans hst _ ih ih' => exact ih' (hst.aside hy hb) (ih hb hhand)
  | rise _ _ _ _ ih => exact ih ⟨hb.buffer, hb.cockpit⟩ hhand
  | inhibit s => rwa [lockInhibit_eq]
  | leave _ _ ih =>
    rw [lockModeLeft_eq]
    exact ih ⟨hb.buffer, hb.cockpit⟩ hhand
  | @originate s u c hfree =>
    rw [(launchStatus_status c u).1]
    rintro heq
    cases heq
    exact hy (hb.buffer ▸ (lowestFree_spec hfree).1)

/-! ## Taps -/

section taps
variable {b : Token} {y : Buffer}

theorem Aside.of_eq {s t : State} (h : Aside b y s) (hbuffers : t.pool.buffers = s.pool.buffers) (htx : t.tx = s.tx) :
    Aside b y t :=
  ⟨(congrArg (look · b) hbuffers).trans h.buffer, htx ▸ h.cockpit⟩

theorem report_aside (k : FaultKind) (active : Bool) {s : State} (hy : y.state ≠ .free) (h : Aside b y s) :
    Aside b y (report k active s) := (report_reacts k active s).aside hy h

theorem reportStaleOf_aside (role : Role) (active : Bool) {s : State} (hy : y.state ≠ .free) (h : Aside b y s) :
    Aside b y (reportStaleOf role active s) := by
  unfold reportStaleOf
  split
  · exact h
  · exact report_aside _ _ hy h

theorem anchorSignal_aside {s : State} (hy : y.state ≠ .free) (h : Aside b y s) : Aside b y (anchorSignal s) := by
  by_cases hmode : s.lean.mode = .bridge
  · simp only [anchorSignal, hmode]
    exact h
  · by_cases hcycle : s.lean.cycle = none
    · rw [anchorSignal_of_idle hmode hcycle, startCycle_eq .anchor hmode]
      exact h.of_eq rfl rfl
    · rw [anchorSignal_of_cycle hmode hcycle]
      split
      · exact h.of_eq rfl rfl
      · exact report_aside _ _ hy (h.of_eq rfl rfl)

theorem handBack_aside {s : State} (h : Aside b y s) : Aside b y (handBack s) := by
  unfold handBack
  split <;> exact ⟨h.buffer, h.cockpit⟩

theorem lockSignal_aside (v : Word) {s : State} (hy : y.state ≠ .free) (h : Aside b y s) :
    Aside b y (lockSignal v s) := by
  unfold lockSignal
  dsimp only
  split
  · exact report_aside _ _ hy h
  · exact report_aside _ _ hy h
  · split
    · exact h
    · exact report_aside _ _ hy (report_aside _ _ hy ⟨h.buffer, h.cockpit⟩)
  · split
    · exact handBack_aside (report_aside _ _ hy (report_aside _ _ hy ⟨h.buffer, h.cockpit⟩))
    · exact h
  · exact h

theorem tap_aside (frame : List Byte) (c : Channel) (g : Signals) {s : State} (hy : y.state ≠ .free)
    (h : Aside b y s) : Aside b y (tap frame c g s).2 := by
  unfold tap
  dsimp only
  split
  · exact ⟨h.buffer, h.cockpit⟩
  · split
    · exact ⟨h.buffer, h.cockpit⟩
    · split
      · exact ⟨h.buffer, h.cockpit⟩
      · exact reportStaleOf_aside _ _ hy (s := putRecord c _ s) ⟨h.buffer, h.cockpit⟩

/-- Taps and their signals leave a buffer alone that is not FREE and stands in no queue of the cockpit port. -/
theorem tapFrame_aside (frame : List Byte) (taps : List Channel) {s : State} (hy : y.state ≠ .free)
    (h : Aside b y s) : Aside b y (tapFrame frame taps s) := by
  have hall (taps : List Channel) (g : Signals) {u : State} (hu : Aside b y u) :
      Aside b y (tapAll frame taps g u).2 := by
    induction taps generalizing g u with
    | nil => exact hu
    | cons c rest ih => exact ih _ (tap_aside frame c g hy hu)
  have htapped := hall taps noSignals h
  unfold tapFrame giveSignals
  generalize tapAll frame taps noSignals s = tapped at htapped
  have hanchored : Aside b y (if tapped.1.anchor then anchorSignal tapped.2 else tapped.2) := by
    split
    · exact anchorSignal_aside hy htapped
    · exact htapped
  dsimp only
  split
  · exact hanchored
  · exact lockSignal_aside _ hy hanchored

end taps

/-- Settles O13: each action by its line of `perform`; the tapped frame is aside while the taps act. -/
theorem actionsDisposeOfTheFrame : Obligations.ActionsDisposeOfTheFrame := by
  intro e p b s frame queue tapped defaulted
  have hreleased (u : State) : buffer b (releaseBuffer b u) = Buffer.empty := by
    rw [buffer_releaseBuffer, if_pos rfl]
  refine ⟨fun h => ?_, fun h => ?_, fun h => ?_, fun h => ?_, fun h => ?_, fun h => ?_, fun h => ?_, fun h => ?_,
    fun hstate hqueued => ?_⟩
  · simp only [perform, h]
    rfl
  · simp only [perform, h]
    rfl
  · have hperform : perform e p b s = releaseBuffer b tapped := by simp only [perform, h]; rfl
    exact ⟨hperform, hperform ▸ hreleased _⟩
  · simp only [perform, h]
  · have hperform : perform e p b s = releaseBuffer b (deliverAck e.drive (framePayload frame) s) := by
      simp only [perform, h]
      rfl
    exact ⟨hperform, hperform ▸ hreleased _⟩
  · have hperform : perform e p b s = releaseBuffer b s := by simp only [perform, h]
    exact ⟨hperform, hperform ▸ hreleased _⟩
  · have hdefault : defaultDisposition p b s = releaseBuffer b defaulted := by
      simp only [defaultDisposition, h, if_true]
      rfl
    exact ⟨hdefault, hdefault ▸ hreleased _⟩
  · simp only [defaultDisposition, h, if_false]
    exact forward_not_urgent p b defaulted
  · exact (tapFrame_aside frame e.taps hstate ⟨rfl, outOf_of_not_queued hqueued .cockpit⟩).buffer

/-! ## Origin claims -/

/-- The buffer as an origin claim holds it (R33). -/
def heldBuffer (s : State) : Buffer :=
  { state := .held, arrival := s.now, arrivalPort := none, egress := none, retainer := none, bytes := [] }

theorem buffer_holdForOrigin (b c : Token) (s : State) :
    buffer c (holdForOrigin b s) = if b = c then heldBuffer s else buffer c s :=
  buffer_putBuffer b c _ s

/-- With a second buffer FREE a claim leaves one. -/
theorem lowestFree_holdForOrigin {b : Token} {s : State} (hfree : lowestFree s = some b) (htwo : 2 ≤ freeCount s) :
    ∃ c, lowestFree (holdForOrigin b s) = some c := by
  have hcount : freeCount (holdForOrigin b s) + 1 = freeCount s :=
    freeCount_putBuffer_of_free (lowestFree_spec hfree).1 (by simp)
  exact lowestFree_of_freeCount_pos (by omega)

/-- A report of POOL_EXHAUSTED inactive with a buffer FREE leaves the tabled record (R33, R162). -/
theorem report_pool_false {s : State} (hfree : lowestFree s ≠ none) :
    faultRecord .poolExhausted (report .poolExhausted false s) =
      takenRecord (severity .poolExhausted s) false (faultRecord .poolExhausted s) := by
  refine (takeInactive_record (want := wantStatus) ?_).trans (if_pos rfl)
  obtain ⟨c, hc⟩ := Option.ne_none_iff_exists'.1 hfree
  have hfree' : lowestFree (putFault .poolExhausted { faultRecord .poolExhausted s with active := false } s)
      = some c := hc
  rw [wantStatus_pool, hfree']
  split
  · exact takenRecord_false_of_inactive (.inr (by simp))
  · rfl

/-- A report of POOL_EXHAUSTED active with no buffer FREE leaves the tabled record (R33, R162). -/
theorem report_pool_true {s : State} (hnone : lowestFree s = none) :
    faultRecord .poolExhausted (report .poolExhausted true s) =
      takenRecord (severity .poolExhausted s) true (faultRecord .poolExhausted s) := by
  have hstays {u : State} (hactive : (faultRecord .poolExhausted u).active = true) (hu : lowestFree u = none) :
      faultRecord .poolExhausted (wantStatus u) = faultRecord .poolExhausted u := by
    rw [wantStatus_pool, hu]
    split
    · exact takenRecord_true_of_active (.inr hactive)
    · rfl
  by_cases hchange : severity .poolExhausted s = 0 ∨ (faultRecord .poolExhausted s).active = true
  · rw [takenRecord_true_of_active hchange]
    exact congrArg _ (takeActive_of_no_change hchange)
  · obtain ⟨hsev, hactive⟩ := not_or.1 hchange
    have hinactive : (faultRecord .poolExhausted s).active = false := by simpa using hactive
    rw [takenRecord_true_of_inactive hsev hinactive, report_true_of_change hsev hinactive]
    have hrisen : faultRecord .poolExhausted (putFault .poolExhausted (risen (faultRecord .poolExhausted s)) s)
        = risen (faultRecord .poolExhausted s) := by simp
    have hnone' : lowestFree (putFault .poolExhausted (risen (faultRecord .poolExhausted s)) s) = none := hnone
    generalize putFault .poolExhausted (risen (faultRecord .poolExhausted s)) s = u at hrisen hnone'
    have hreact : faultRecord .poolExhausted (react wantStatus .poolExhausted u) = risen (faultRecord .poolExhausted s) := by
      rw [react_record (j := .poolExhausted) fun v _ hpool hothers => hstays ?_ ?_, if_neg (by simp), hrisen]
      · rw [hothers .poolExhausted (by simp), hrisen]
        rfl
      · simpa only [lowestFree, buffer, hpool] using hnone'
    have hnone'' := ((react_reacts wantStatus_reacts .poolExhausted u).buffers_of_none hnone').2
    refine Eq.trans ?_ hreact
    split
    · exact hstays (by rw [hreact]; rfl) hnone''
    · rfl

/-- Settles O40: the claimed buffer is aside while POOL_EXHAUSTED is reported; with none FREE no report finds one. -/
theorem originClaimsAndReleasesAreTold : Obligations.OriginClaimsAndReleasesAreTold := by
  intro b s
  refine ⟨fun hfree hqueued => ?_, fun hnone => ?_, ?_, fun c hc => ?_, ?_, ?_⟩
  · rw [claimOrigin_of_free hfree]
    have hheld : Aside b (heldBuffer s) (holdForOrigin b s) :=
      ⟨(buffer_holdForOrigin b b s).trans (if_pos rfl), outOf_of_not_queued hqueued .cockpit⟩
    refine ⟨rfl, (report_aside .poolExhausted false (by simp [heldBuffer]) hheld).buffer, fun htwo => ?_⟩
    obtain ⟨c, hc⟩ := lowestFree_holdForOrigin hfree htwo
    exact report_pool_false (by rw [hc]; simp)
  · rw [claimOrigin_of_none hnone]
    exact ⟨rfl, ((report_reacts .poolExhausted true s).buffers_of_none hnone).1, report_pool_true hnone⟩
  · rw [buffer_releaseBuffer, if_pos rfl]
  · rw [buffer_releaseBuffer, if_neg hc.symm]
  · unfold releaseBuffer noticeRelease
    split
    next => rfl
    next h => exact eq_false_of_ne_true h
  · unfold releaseBuffer noticeRelease
    split
    next h =>
      have hnotice : s.pool.releaseNotice = true := h
      simp [hnotice]
    next h =>
      have hnotice : s.pool.releaseNotice = false := eq_false_of_ne_true h
      simp [hnotice]

end Sys2Proof.Machine
end

section
/-! PROOF. The wish for a status frame along a pick, status frames originated by the status commands, and replies
(R170, R171, R172, R183). -/

namespace Sys2Proof.Machine

/-! ## What queueing leaves of the wish for a status frame -/

/-- On the way from `s` to `t` a status-wanted flag falls only as the status frame in hand goes out, and a notice of a
release is asked for or given still (R31, R172). -/
structure KeepsWish (s t : State) : Prop where
  hand : t.monitor.statusInHand = s.monitor.statusInHand
  wanted : t.monitor.statusWanted = s.monitor.statusWanted
    ∨ t.monitor.statusWanted = false ∧ s.monitor.statusInHand ≠ none
  notice : s.pool.releaseNotice = true ∨ s.monitor.retryDue = true →
    t.pool.releaseNotice = true ∨ t.monitor.retryDue = true

theorem KeepsWish.of_same {s t : State} (hmonitor : t.monitor = s.monitor)
    (hnotice : t.pool.releaseNotice = s.pool.releaseNotice) : KeepsWish s t :=
  ⟨by rw [hmonitor], .inl (by rw [hmonitor]), by rw [hmonitor, hnotice]; exact id⟩

theorem KeepsWish.refl (s : State) : KeepsWish s s := .of_same rfl rfl

theorem KeepsWish.trans {s t u : State} (h : KeepsWish s t) (k : KeepsWish t u) : KeepsWish s u := by
  refine ⟨k.hand.trans h.hand, ?_, fun hs => k.notice (h.notice hs)⟩
  rcases k.wanted with ksame | ⟨kfalse, khand⟩
  · rw [ksame]
    exact h.wanted
  · exact .inr ⟨kfalse, h.hand ▸ khand⟩

theorem releaseBuffer_keepsWish (b : Token) (s : State) : KeepsWish s (releaseBuffer b s) := by
  unfold releaseBuffer noticeRelease
  split
  next => exact ⟨rfl, .inl rfl, fun _ => .inr rfl⟩
  next => exact .of_same rfl rfl

theorem tellSlot_keepsWish (d : Drive) (b : Token) (s : State) : KeepsWish s (tellSlot d b s) := by
  unfold tellSlot
  dsimp only
  split <;> exact .of_same rfl rfl

theorem ageHeads_keepsWish (p : Port) (q : List Token) (s : State) : KeepsWish s (ageHeads p q s) := by
  induction q generalizing s with
  | nil => exact .refl s
  | cons b rest ih =>
    have haged : KeepsWish s (ageOut p b rest s) := by
      have htaken (z : Transmitter) : KeepsWish s (setTx p z s) := .of_same rfl rfl
      unfold ageOut
      dsimp only
      split
      · exact (htaken _).trans (releaseBuffer_keepsWish ..)
      · have hstate (u : State) : KeepsWish u (setBufferState b .retained u) := .of_same rfl rfl
        exact ((htaken _).trans (hstate _)).trans (tellSlot_keepsWish ..)
    unfold ageHeads
    split
    · exact haged.trans (ih _)
    · exact .refl s

theorem beginTransmission_keepsWish (p : Port) (b : Token) (s : State) : KeepsWish s (beginTransmission p b s) := by
  by_cases h : p = .cockpit ∧ s.monitor.statusInHand = some b
  · rw [beginTransmission_of_status h]
    exact ⟨rfl, .inr ⟨rfl, by simp [h.2]⟩, id⟩
  · rw [beginTransmission_of_other h]
    exact .of_same rfl rfl

theorem pick_keepsWish (p : Port) (s : State) : KeepsWish s (pick p s) := by
  refine (ageHeads_keepsWish p (s.tx.get p).transit s).trans (u := pick p s) ?_
  show KeepsWish _ (choose p (ageHeads p (s.tx.get p).transit s))
  obtain ⟨-, -, hsame⟩ | ⟨c, z, hchoose, -⟩ := choose_cases p (ageHeads p (s.tx.get p).transit s)
  · rw [hsame]
    exact .refl _
  · have htaken (u : State) : KeepsWish u (setTx p z u) := .of_same rfl rfl
    rw [hchoose]
    exact (htaken _).trans (beginTransmission_keepsWish ..)

theorem enqueue_keepsWish (p : Port) (q : Queue) (b : Token) (s : State) : KeepsWish s (enqueue p q b s) := by
  have hjoined : KeepsWish s (joined p q b s) := by cases q <;> exact .of_same rfl rfl
  rw [enqueue_eq]
  split
  · exact hjoined.trans (pick_keepsWish p _)
  · exact hjoined

/-- A wish that is not there does not come about. -/
theorem KeepsWish.wanted_false {s t : State} (h : KeepsWish s t) (hs : s.monitor.statusWanted = false) :
    t.monitor.statusWanted = false :=
  h.wanted.elim (fun hsame => hsame.trans hs) And.left

/-- A wish without a status frame in hand stays. -/
theorem KeepsWish.wanted_of_none {s t : State} (h : KeepsWish s t) (hs : s.monitor.statusInHand = none) :
    t.monitor.statusWanted = s.monitor.statusWanted :=
  h.wanted.resolve_right fun hsent => hsent.2 hs

/-! ## Reports that find status-wanted set -/

/-- The state with another mode, lock, fault table, ALERT and status-wanted. -/
def reacted (m : Mode) (l : Lock) (f : Vector FaultRecord 16) (a w : Bool) (s : State) : State :=
  { s with
    lean := { s.lean with mode := m }, lock := l
    monitor := { s.monitor with faults := f, alert := a, statusWanted := w } }

/-- Mode, lock, fault table, ALERT and status-wanted are all that may differ. -/
def ReactedOnly (s t : State) : Prop := ∃ m l f a w, t = reacted m l f a w s

theorem ReactedOnly.refl (s : State) : ReactedOnly s s := ⟨_, _, _, _, _, rfl⟩

theorem ReactedOnly.trans {s t u : State} (h : ReactedOnly s t) (k : ReactedOnly t u) : ReactedOnly s u := by
  obtain ⟨m, l, f, a, w, rfl⟩ := h
  obtain ⟨m', l', f', a', w', rfl⟩ := k
  exact ⟨m', l', f', a', w', rfl⟩

theorem putFault_reactedOnly (k : FaultKind) (r : FaultRecord) (s : State) : ReactedOnly s (putFault k r s) :=
  ⟨_, _, _, _, _, rfl⟩

theorem setWanted_reactedOnly (s : State) : ReactedOnly s (setWanted s) := ⟨_, _, _, _, _, rfl⟩

theorem takeInactive_setWanted_reactedOnly (k : FaultKind) (s : State) :
    ReactedOnly s (takeInactive setWanted k s) := by
  unfold takeInactive
  dsimp only
  split
  · exact .refl s
  · split
    · exact (putFault_reactedOnly ..).trans (setWanted_reactedOnly _)
    · exact putFault_reactedOnly ..

theorem takeActive_setWanted_reactedOnly (k : FaultKind) (s : State) :
    ReactedOnly s (takeActive setWanted k s) := by
  have hlock (u : State) (l : Lock) : ReactedOnly u { u with lock := l } := ⟨_, _, _, _, _, rfl⟩
  have hleave (u : State) : ReactedOnly u (leaveActive setWanted u) := by
    by_cases hmode : u.lean.mode = .active
    · have hrecover : ReactedOnly u (recovering u) := ⟨_, _, _, _, _, rfl⟩
      rw [leaveActive_of_active hmode, lockModeLeft_eq]
      exact (hrecover.trans (takeInactive_setWanted_reactedOnly ..)).trans (hlock ..)
    · rw [leaveActive_of_not_active hmode]
      exact .refl u
  have hreact (u : State) : ReactedOnly u (react setWanted k u) := by
    have htold : ReactedOnly u (if 3 ≤ severity k u then lockInhibit u else u) := by
      split
      · rw [lockInhibit_eq]
        exact hlock ..
      · exact .refl u
    unfold react
    dsimp only
    split
    · exact htold.trans (hleave _)
    · exact htold
  have hjudged (u : State) : ReactedOnly u (judgeAlert u) := ⟨_, _, _, _, _, rfl⟩
  unfold takeActive
  dsimp only
  split
  · exact .refl s
  · refine ReactedOnly.trans ?_ (hjudged _)
    split
    · exact ((putFault_reactedOnly ..).trans (hreact _)).trans (setWanted_reactedOnly _)
    · exact (putFault_reactedOnly ..).trans (hreact _)

/-! ## Where an originated status frame stands -/

/-- The status frame as it waits on PRIORITY: its header only (R171). -/
def statusBuffer (s : State) : Buffer :=
  { heldBuffer s with
    state := .queued, egress := some .cockpit
    bytes := headerBytes 7 (statusStream s.node) s.monitor.statusSeq 18 }

theorem stateRecord_length (s : State) : (stateRecord s).length = 18 := rfl

/-- What is left to show of a status frame launched, from where its buffer stands. -/
theorem statusLaunched_of_place {b : Token} {s t : State} {r : List Byte} (hr : r.length = 18)
    (hhand : t.monitor.statusInHand = some b) (hseq : t.monitor.statusSeq = s.monitor.statusSeq + 1)
    (hwanted : t.monitor.statusWanted = false)
    (hpool : faultRecord .poolExhausted t =
      takenRecord (severity .poolExhausted s) false (faultRecord .poolExhausted s))
    (hplace : (b ∈ t.tx.cockpit.priority ∧ buffer b t = statusBuffer s)
      ∨ (t.tx.cockpit.sending = some b
        ∧ buffer b t = { statusBuffer s with
            state := .sending, bytes := withCheck ((statusBuffer s).bytes.take 4 ++ r) })) :
    StatusLaunched b s t := by
  rcases hplace with ⟨hin, hbuffer⟩ | ⟨hsending, hbuffer⟩
  · exact
      { inHand := hhand, seq := hseq, wanted := hwanted, pool := hpool
        header := by rw [hbuffer]; rfl
        arrival := by rw [hbuffer]; rfl
        egress := by rw [hbuffer]; rfl
        retainer := by rw [hbuffer]; rfl
        place := .inl ⟨hin, by rw [hbuffer]; exact ⟨rfl, rfl⟩⟩ }
  · refine
      { inHand := hhand, seq := hseq, wanted := hwanted, pool := hpool
        header := by rw [hbuffer]; rfl
        arrival := by rw [hbuffer]; rfl
        egress := by rw [hbuffer]; rfl
        retainer := by rw [hbuffer]; rfl
        place := .inr ⟨hsending, by rw [hbuffer], ?_⟩ }
    rw [hbuffer]
    show (withCheck ((headerBytes 7 (statusStream s.node) s.monitor.statusSeq 18).take 4 ++ r)).length = 24
    rw [withCheck, List.length_append, List.length_append, hr]
    rfl

section launch
variable {b : Token} {s : State}

/-- The claim of a status frame finds the transmitters and the rest as before, and the buffer held (R33, R171). -/
theorem launch_state (hfree : lowestFree s = some b) :
    ∃ u, originateStatus s = enqueue .cockpit .priority b (headed b u) ∧ u.tx = s.tx ∧ u.now = s.now
      ∧ queuedBuffer .cockpit (buffer b (headed b u)) = statusBuffer s := by
  obtain ⟨m, l, f, a, w, hu⟩ := takeInactive_setWanted_reactedOnly .poolExhausted (holdForOrigin b s)
  refine ⟨_, (originateStatus_of_free hfree).trans (launchStatus_eq b _), ?_, ?_, ?_⟩
  · rw [hu]
    rfl
  · rw [hu]
    rfl
  · have hheld : buffer b (reacted m l f a w (holdForOrigin b s)) = heldBuffer s :=
      (buffer_holdForOrigin b b s).trans (if_pos rfl)
    rw [hu, buffer_headed, if_pos rfl, hheld]
    rfl

/-- A status frame is originated in the FREE buffer with the lowest token (R171). -/
theorem originateStatus_launched (hfree : lowestFree s = some b) (hqueued : b ∉ queuedTokens s) :
    StatusLaunched b s (originateStatus s) := by
  have hkeeps := take_setWanted_keepsStatus .poolExhausted false (holdForOrigin b s)
  have hpool := originateStatus_pool s
  rw [hfree] at hpool
  have hstatus : (originateStatus s).monitor.statusInHand = some b
      ∧ (originateStatus s).monitor.statusSeq = s.monitor.statusSeq + 1 := by
    rw [originateStatus_of_free hfree]
    exact ⟨(launchStatus_status b _).1, (launchStatus_status b _).2.trans (congrArg (· + 1) hkeeps.seq)⟩
  obtain ⟨u, hlaunch, htx, -, hbuffer⟩ := launch_state hfree
  have htransit : b ∉ ((headed b u).tx.get .cockpit).transit := by
    show b ∉ (u.tx.get .cockpit).transit
    rw [htx]
    exact (outOf_of_not_queued hqueued .cockpit).2
  have hplace := enqueue_place htransit
  have hbytes : sentBytes .cockpit b (headed b u) = withCheck ((buffer b (headed b u)).bytes.take 4 ++ stateRecord (headed b u)) :=
    if_pos ⟨rfl, rfl⟩
  have hbytes' : (buffer b (headed b u)).bytes = (statusBuffer s).bytes := by rw [← hbuffer]; rfl
  rw [hbuffer, hbytes, hbytes', ← hlaunch] at hplace
  refine statusLaunched_of_place (stateRecord_length (headed b u)) hstatus.1 hstatus.2 ?_ hpool hplace
  rw [hlaunch]
  exact (enqueue_keepsWish ..).wanted_false rfl

end launch

/-- Settles O42: both commands come to the origination of a status frame. -/
theorem statusFrameIsOriginatedOrWaits : Obligations.StatusFrameIsOriginatedOrWaits := by
  intro s hreset hhand restarted refused
  have hrefused (u : State) (hpool : u.pool = s.pool) (hhand : u.monitor.statusInHand = none)
      (hseq : u.monitor.statusSeq = s.monitor.statusSeq) (hwanted : u.monitor.statusWanted = true)
      (hfaults : faultRecord .poolExhausted u = faultRecord .poolExhausted s)
      (hseverity : severity .poolExhausted u = severity .poolExhausted s) (hnone : lowestFree s = none) :
      refused (originateStatus u) ∧ (originateStatus u).monitor.retryDue = u.monitor.retryDue := by
    have hnone' : lowestFree u = none := by simpa only [lowestFree, buffer, hpool] using hnone
    have hkeeps := take_setWanted_keepsStatus .poolExhausted true u
    have hrecord := originateStatus_pool u
    obtain ⟨m, l, f, a, w, hreacted⟩ := takeActive_setWanted_reactedOnly .poolExhausted u
    rw [hnone', hseverity, hfaults] at hrecord
    have heq := originateStatus_of_none hnone'
    refine ⟨⟨?_, ?_, ?_, ?_, ?_, hrecord⟩, ?_⟩
    · rw [heq]
      exact hkeeps.inHand.trans hhand
    · rw [heq]
      exact hkeeps.seq.trans hseq
    · rw [heq]
      exact hkeeps.wanted hwanted
    · rw [heq]
    · rw [heq]
      show (takeActive setWanted .poolExhausted u).pool.buffers = s.pool.buffers
      rw [← hpool]
      exact congrArg Pool.buffers hkeeps.pool
    · rw [heq, hreacted]
      rfl
  refine ⟨fun hdue hwanted => ?_, fun hdue hwanted => ?_⟩
  · have hexec : statusClaimRetry s = originateStatus { s with monitor := { s.monitor with retryDue := false } } := by
      simp only [statusClaimRetry, hdue, if_true, hwanted, hhand, and_self]
    have htold : ReactionOnly s { s with monitor := { s.monitor with retryDue := false } } :=
      ⟨⟨rfl, rfl, rfl, rfl, rfl, rfl, rfl, rfl, rfl, rfl, rfl, rfl⟩, rfl, rfl, rfl, rfl, rfl⟩
    refine ⟨_, (unlessReset_of_not_inReset _ hreset).trans (congrArg _ hexec),
      htold.trans (originateStatus_reaction _), fun b hfree hqueued => ?_, fun hnone => ?_⟩
    · obtain ⟨hinHand, hseq, hwant, hheader, harrival, hegress, hretainer, hplace, hpool⟩ :=
        originateStatus_launched (s := { s with monitor := { s.monitor with retryDue := false } }) hfree hqueued
      exact ⟨hinHand, hseq, hwant, hheader, harrival, hegress, hretainer, hplace, hpool⟩
    · exact hrefused { s with monitor := { s.monitor with retryDue := false } } rfl hhand rfl hwanted rfl rfl hnone
  · have hexec : statusIntervalExpiry s = originateStatus (setWanted restarted) := by
      simp only [statusIntervalExpiry, timerDue_of_zero hdue, if_true]
      exact wantStatus_of_idle (s := restarted) hwanted hhand
    refine ⟨_, (unlessReset_of_not_inReset _ hreset).trans (congrArg _ hexec),
      (setWanted_reaction restarted).trans (originateStatus_reaction _), fun b hfree hqueued => ?_, fun hnone => ?_⟩
    · obtain ⟨hinHand, hseq, hwant, hheader, harrival, hegress, hretainer, hplace, hpool⟩ :=
        originateStatus_launched (s := setWanted restarted) hfree hqueued
      exact ⟨hinHand, hseq, hwant, hheader, harrival, hegress, hretainer, hplace, hpool⟩
    · exact (hrefused (setWanted restarted) rfl hhand rfl rfl rfl rfl hnone).1

/-! ## Replies -/

/-- The reply as `queueReply` puts it into its buffer, the request released (R183). -/
def replied (rq : RequestInHand) (r : Result) (data : List Byte) (s : State) : State :=
  setBytes rq.reply
    (replyFrame s.node (frameSeq (buffer rq.request s).bytes) (tagByte (framePayload (buffer rq.request s).bytes))
      (codeByte (framePayload (buffer rq.request s).bytes)) r data)
    (releaseBuffer rq.request s)

theorem queueReply_eq (rq : RequestInHand) (r : Result) (data : List Byte) (s : State) :
    queueReply rq r data s = countReply r (enqueue rq.port .priority rq.reply (replied rq r data s)) := rfl

theorem replied_traffic (rq : RequestInHand) (r : Result) (data : List Byte) (s : State) :
    TrafficOnly s (replied rq r data s) :=
  (releaseBuffer_traffic rq.request s).trans (setBytes_traffic ..)

theorem replied_tx (rq : RequestInHand) (r : Result) (data : List Byte) (s : State) :
    (replied rq r data s).tx = s.tx := releaseBuffer_tx rq.request s

/-- A request that is too short, has no known code or lacks its arguments is malformed (R183, R200). -/
theorem requestMalformed_of {payload : List Byte}
    (h : payload.length < 2 ∨ readRequestCode (byteAt payload 1) = none
      ∨ ∃ c, readRequestCode (byteAt payload 1) = some c ∧ payload.length < neededLength c payload) :
    requestMalformed payload = true := by
  unfold requestMalformed requestCode
  by_cases hlen : 2 ≤ payload.length
  · rw [if_pos hlen]
    rcases h with hshort | hcode | ⟨c, hcode, hshort⟩
    · omega
    · rw [hcode]
    · rw [hcode]
      exact decide_eq_true hshort
  · rw [if_neg hlen]

/-- Settles O43: the reply's buffer by the place of a queued buffer; the verdict on a malformed request. -/
theorem requestsAreAnsweredAndMalformedOnesRefused : Obligations.RequestsAreAnsweredAndMalformedOnesRefused := by
  refine ⟨?_, fun rq r data s hin => ?_, ?_⟩
  · intro rq r data s hne hhand htransit t frame
    have htraffic := replied_traffic rq r data s
    have hbytes : (buffer rq.reply (replied rq r data s)).bytes =
        buildFrame 6 (managementStream s.node) (frameSeq frame)
          ([byteAt (framePayload frame) 0, byteAt (framePayload frame) 1, resultCode r]
            ++ if r = .done then data else []) :=
      congrArg Buffer.bytes ((buffer_setBytes ..).trans (if_pos rfl))
    have hsent : sentBytes rq.port rq.reply (replied rq r data s) = (buffer rq.reply (replied rq r data s)).bytes :=
      sentBytes_of_other fun h => hhand (htraffic.statusInHand ▸ h.2)
    have htransit' : rq.reply ∉ ((replied rq r data s).tx.get rq.port).transit := by rwa [replied_tx]
    have hplace := enqueue_place htransit'
    rw [hsent, hbytes] at hplace
    have hbuffer (c : Token) : buffer c t = buffer c (enqueue rq.port .priority rq.reply (replied rq r data s)) := rfl
    have htx : t.tx = (enqueue rq.port .priority rq.reply (replied rq r data s)).tx := rfl
    refine ⟨?_, ?_, fun hbusy => ⟨?_, ?_⟩, ?_⟩
    · rw [hbuffer]
      rcases hplace with ⟨-, h⟩ | ⟨-, h⟩
      · rw [h, ← hbytes]
        rfl
      · rw [h]
    · rw [hbuffer]
      rcases hplace with ⟨-, h⟩ | ⟨-, h⟩
      · exact .inl (by rw [h]; rfl)
      · exact .inr (by rw [h])
    · have hbusy' : ((replied rq r data s).tx.get rq.port).sending ≠ none := by rwa [replied_tx]
      rw [htx, enqueue_of_busy hbusy', joined_tx, ports_get_set_same, replied_tx]
      rfl
    · have hbusy' : ((replied rq r data s).tx.get rq.port).sending ≠ none := by rwa [replied_tx]
      rw [hbuffer, enqueue_of_busy hbusy', buffer_joined, if_neg hne.symm, replied, buffer_setBytes, if_neg hne.symm,
        buffer_releaseBuffer, if_pos rfl]
    · have hagent : (enqueue rq.port .priority rq.reply (replied rq r data s)).agent = s.agent :=
        (htraffic.trans (enqueue_traffic ..)).agent
      have ht : t = countReply r (enqueue rq.port .priority rq.reply (replied rq r data s)) := rfl
      rw [ht]
      simp only [countReply, setAgentCounters, hagent]
  · simp only [answer, hin]
  · intro rq s hreset hin payload hbad
    refine (unlessReset_of_not_inReset _ hreset).trans ?_
    simp only [malformedRequest, hin]
    rw [if_pos (requestMalformed_of hbad)]

end Sys2Proof.Machine
end

section
/-! PROOF. What a report that changes a kind of STATUS_MASK sets going, and the completion of a transmission (R45, R170,
R171). -/

namespace Sys2Proof.Machine

/-! ## Status-wanted along a report -/

/-- Pool, status frames and the record of POOL_EXHAUSTED are as before. -/
structure SameStatus (s t : State) : Prop where
  pool : t.pool = s.pool
  params : t.agent.params = s.agent.params
  wanted : t.monitor.statusWanted = s.monitor.statusWanted
  inHand : t.monitor.statusInHand = s.monitor.statusInHand
  seq : t.monitor.statusSeq = s.monitor.statusSeq
  record : faultRecord .poolExhausted t = faultRecord .poolExhausted s

theorem SameStatus.refl (s : State) : SameStatus s s := ⟨rfl, rfl, rfl, rfl, rfl, rfl⟩

theorem SameStatus.trans {s t u : State} (h : SameStatus s t) (k : SameStatus t u) : SameStatus s u :=
  ⟨k.pool.trans h.pool, k.params.trans h.params, k.wanted.trans h.wanted, k.inHand.trans h.inHand, k.seq.trans h.seq,
    k.record.trans h.record⟩

theorem SameStatus.lowestFree {s t : State} (h : SameStatus s t) : Machine.lowestFree t = Machine.lowestFree s := by
  simp only [Machine.lowestFree, buffer, h.pool]

theorem putFault_sameStatus {k : FaultKind} (hk : k ≠ .poolExhausted) (r : FaultRecord) (s : State) :
    SameStatus s (putFault k r s) :=
  ⟨rfl, rfl, rfl, rfl, rfl, by rw [faultRecord_putFault, if_neg hk]⟩

/-- Status-wanted has been set on the way from `s` to `t`, with the report of a refused claim (R170, R171, R33). -/
structure StatusAsked (s t : State) : Prop extends StatusWantedFrom s t where
  refused : s.monitor.statusWanted = false → s.monitor.statusInHand = none → lowestFree s = none →
    faultRecord .poolExhausted t = takenRecord (severity .poolExhausted s) true (faultRecord .poolExhausted s)

/-- Status-wanted set where nothing has changed of the status. -/
theorem SameStatus.asked {s u : State} (h : SameStatus s u) : StatusAsked s (wantStatus u) := by
  obtain ⟨halready, horiginated, hwaits⟩ := wantStatus_statusWantedFrom u
  rw [h.wanted, h.inHand] at halready
  rw [h.wanted, h.inHand, h.lowestFree] at horiginated hwaits
  rw [h.seq] at horiginated
  rw [h.pool] at hwaits
  refine ⟨⟨halready, horiginated, hwaits⟩, fun hwanted hhand hnone => ?_⟩
  rw [wantStatus_pool, h.wanted, h.inHand, h.lowestFree, hnone, if_pos ⟨hwanted, hhand⟩, h.record,
    severity_of_params h.params]
  rfl

theorem StatusAsked.of_same {s t u : State} (h : StatusAsked s t) (k : SameStatus t u) : StatusAsked s u where
  already hs := by
    rw [k.wanted, k.inHand]
    exact h.already hs
  originated hw hn b hb := by
    rw [k.inHand, k.seq]
    exact h.originated hw hn b hb
  waits hw hn hb := by
    rw [k.inHand, k.wanted, k.pool]
    exact h.waits hw hn hb
  refused hw hn hb := by
    rw [k.record]
    exact h.refused hw hn hb

/-- Once asked for, a status frame is wanted or in hand. -/
theorem StatusAsked.wanted_or_inHand {s t : State} (h : StatusAsked s t) :
    t.monitor.statusWanted = true ∨ t.monitor.statusInHand ≠ none := by
  by_cases hs : s.monitor.statusWanted = true ∨ s.monitor.statusInHand ≠ none
  · exact .inl (h.already hs).1
  · obtain ⟨hwanted, hhand⟩ := not_or.1 hs
    have hwanted' : s.monitor.statusWanted = false := eq_false_of_ne_true hwanted
    have hhand' : s.monitor.statusInHand = none := Classical.not_not.1 hhand
    cases hfree : lowestFree s with
    | some b => exact .inr (by rw [(h.originated hwanted' hhand' b hfree).1]; simp)
    | none => exact .inl (h.waits hwanted' hhand' hfree).2.1

/-- Status-wanted set once more asks for nothing else. -/
theorem StatusAsked.want {s t : State} (h : StatusAsked s t) : StatusAsked s (wantStatus t) := by
  cases hwanted : t.monitor.statusWanted with
  | true => rwa [wantStatus_of_wanted hwanted]
  | false =>
    have hhand := h.wanted_or_inHand.resolve_left (by simp [hwanted])
    rw [wantStatus_of_inHand hwanted hhand]
    exact ⟨⟨fun hs => ⟨rfl, (h.already hs).2⟩, h.originated, fun hw hn hb => by
      have hcontra := (h.waits hw hn hb).2.1
      rw [hwanted] at hcontra
      cases hcontra⟩, h.refused⟩

/-- The status is as before, or has been asked for. -/
def StatusFollows (s t : State) : Prop := SameStatus s t ∨ StatusAsked s t

theorem StatusFollows.of_same {s t u : State} (h : StatusFollows s t) (k : SameStatus t u) : StatusFollows s u :=
  h.imp (·.trans k) (·.of_same k)

theorem StatusFollows.want {s t : State} (h : StatusFollows s t) : StatusAsked s (wantStatus t) :=
  h.elim SameStatus.asked StatusAsked.want

theorem lockModeLeft_sameStatus (s : State) : SameStatus s (lockModeLeft s) := by
  rw [lockModeLeft_eq]
  exact ⟨rfl, rfl, rfl, rfl, rfl, rfl⟩

/-- The severity reactions ask for a status frame where EXCURSION changes within the mask (R88). -/
theorem react_follows (k : FaultKind) {s u : State} (h : SameStatus s u) : StatusFollows s (react wantStatus k u) := by
  have htold : SameStatus s (if 3 ≤ severity k u then lockInhibit u else u) := by
    split
    · rw [lockInhibit_eq]
      exact h.trans ⟨rfl, rfl, rfl, rfl, rfl, rfl⟩
    · exact h
  unfold react
  dsimp only
  generalize (if 3 ≤ severity k u then lockInhibit u else u) = v at htold
  split
  · by_cases hmode : v.lean.mode = .active
    · have hrecover : SameStatus s (recovering v) := htold.trans ⟨rfl, rfl, rfl, rfl, rfl, rfl⟩
      rw [leaveActive_of_active hmode]
      refine StatusFollows.of_same ?_ (lockModeLeft_sameStatus _)
      have hput := putFault_sameStatus (k := .excursion) (by simp)
        { faultRecord .excursion (recovering v) with active := false } (recovering v)
      unfold takeInactive
      dsimp only
      split
      · exact .inl hrecover
      · split
        · exact .inr (hrecover.trans hput).asked
        · exact .inl (hrecover.trans hput)
    · rw [leaveActive_of_not_active hmode]
      exact .inl htold
  · exact .inl htold

theorem judgeAlert_sameStatus (s : State) : SameStatus s (judgeAlert s) := ⟨rfl, rfl, rfl, rfl, rfl, rfl⟩

/-- A report that changes a kind of STATUS_MASK asks for a status frame (R170). -/
theorem report_asked {k : FaultKind} {active : Bool} {s : State} (hk : k ≠ .poolExhausted)
    (hmask : inStatusMask k s = true) (hsev : severity k s ≠ 0) (hchange : (faultRecord k s).active ≠ active) :
    StatusAsked s (report k active s) := by
  cases active with
  | false =>
    have heq := takeInactive_of_change (want := wantStatus) hsev (by simpa using hchange)
    rw [hmask, if_pos rfl] at heq
    have hasked := (putFault_sameStatus hk { faultRecord k s with active := false } s).asked
    rwa [← heq] at hasked
  | true =>
    rw [report_true_of_change hsev (by simpa using hchange), hmask, if_pos rfl]
    exact (react_follows k (putFault_sameStatus hk _ s)).want.of_same (judgeAlert_sameStatus _)

/-! ## A report outside the mask -/

/-- Mode, lock, fault table and ALERT are all that may differ. -/
def ReactedMutely (s t : State) : Prop := ∃ m l f a, t = reacted m l f a s.monitor.statusWanted s

theorem ReactedMutely.trans {s t u : State} (h : ReactedMutely s t) (k : ReactedMutely t u) : ReactedMutely s u := by
  obtain ⟨m, l, f, a, rfl⟩ := h
  obtain ⟨m', l', f', a', rfl⟩ := k
  exact ⟨m', l', f', a', rfl⟩

/-- Leaving ACTIVE asks for no status frame where EXCURSION does not change within the mask (R88). -/
theorem leaveActive_mutely {s : State}
    (halone : s.lean.mode ≠ .active ∨ inStatusMask .excursion s = false
      ∨ severity .excursion s = 0 ∨ (faultRecord .excursion s).active = false) :
    ReactedMutely s (leaveActive wantStatus s) := by
  by_cases hmode : s.lean.mode = .active
  · have hleft (u : State) : ReactedMutely u { u with lock := lockAfterLeaving u.lock } := ⟨_, _, _, _, rfl⟩
    rw [leaveActive_of_active hmode, lockModeLeft_eq]
    refine ReactedMutely.trans ?_ (hleft _)
    by_cases hchange : severity .excursion s = 0 ∨ (faultRecord .excursion s).active = false
    · rw [takeInactive_of_no_change (by exact hchange)]
      exact ⟨_, _, _, _, rfl⟩
    · obtain ⟨hsev, hactive⟩ := not_or.1 hchange
      have hmask : inStatusMask .excursion s = false :=
        (halone.resolve_left (Classical.not_not.2 hmode)).resolve_right hchange
      have heq := takeInactive_of_change (want := wantStatus) (k := .excursion) (s := recovering s) hsev
        (eq_true_of_ne_false hactive)
      rw [heq, if_neg (by exact ne_true_of_eq_false hmask)]
      exact ⟨_, _, _, _, rfl⟩
  · rw [leaveActive_of_not_active hmode]
    exact ⟨_, _, _, _, rfl⟩

/-- The severity reactions ask for no status frame where EXCURSION does not change within the mask. -/
theorem react_mutely {k : FaultKind} {s : State}
    (halone : severity k s ≤ 1 ∨ s.lean.mode ≠ .active ∨ inStatusMask .excursion s = false
      ∨ severity .excursion s = 0 ∨ (faultRecord .excursion s).active = false) :
    ReactedMutely s (react wantStatus k s) := by
  by_cases hgrave : 2 ≤ severity k s
  · have htold : ∃ x, (if 3 ≤ severity k s then lockInhibit s else s) = { s with lock := x } := by
      split
      · exact ⟨_, lockInhibit_eq s⟩
      · exact ⟨s.lock, rfl⟩
    obtain ⟨x, hx⟩ := htold
    have hreact : react wantStatus k s = leaveActive wantStatus { s with lock := x } := by
      simp only [react, hgrave, if_true, hx]
    have hlock : ReactedMutely s { s with lock := x } := ⟨_, _, _, _, rfl⟩
    rw [hreact]
    exact hlock.trans (leaveActive_mutely (s := { s with lock := x }) (halone.resolve_left (by omega)))
  · rw [react_of_mild (by omega)]
    exact ⟨_, _, _, _, rfl⟩

/-- Settles O39: within the mask by `report_asked`, outside it by what the reactions then touch. -/
theorem flagChangesWantAStatusFrame : Obligations.FlagChangesWantAStatusFrame := by
  intro k active s t changes alone
  refine ⟨report_of_no_change, fun hchanges hk hmask => ?_, fun hmask hactive => ?_, fun hmask hactive halone => ?_⟩
  · have hpool : k ≠ .poolExhausted := by
      rintro rfl
      cases hk
    have hasked := report_asked hpool hmask hchanges.1 hchanges.2
    exact ⟨hasked.toStatusWantedFrom, hasked.refused⟩
  · subst hactive
    by_cases hchange : severity k s = 0 ∨ (faultRecord k s).active = false
    · have ht : t = s := takeInactive_of_no_change hchange
      rw [ht]
    · obtain ⟨hsev, hact⟩ := not_or.1 hchange
      have ht : t = putFault k { faultRecord k s with active := false } s :=
        (takeInactive_of_change hsev (eq_true_of_ne_false hact)).trans (if_neg (by simp [hmask]))
      rw [ht]
      rfl
  · subst hactive
    by_cases hchange : severity k s = 0 ∨ (faultRecord k s).active = true
    · have ht : t = s := takeActive_of_no_change hchange
      rw [ht]
    · obtain ⟨hsev, hact⟩ := not_or.1 hchange
      have ht : t = judgeAlert (react wantStatus k (putFault k (risen (faultRecord k s)) s)) := by
        refine (report_true_of_change hsev (eq_false_of_ne_true hact)).trans ?_
        rw [if_neg (by simp [hmask])]
      have halone' : severity k s ≤ 1 ∨ s.lean.mode ≠ .active ∨ inStatusMask .excursion s = false
          ∨ severity .excursion s = 0
          ∨ (faultRecord .excursion (putFault k (risen (faultRecord k s)) s)).active = false := by
        by_cases hk : k = .excursion
        · subst hk
          exact .inr (.inr (.inl hmask))
        · rwa [faultRecord_putFault, if_neg hk]
      obtain ⟨m, l, f, a, hreact⟩ := react_mutely (s := putFault k (risen (faultRecord k s)) s) halone'
      rw [ht, hreact]
      rfl

/-! ## The completion of a transmission -/

theorem lowestFree_eq_some {s : State} {b : Token} (hfree : (buffer b s).state = .free)
    (hlowest : ∀ c, c < b → (buffer c s).state ≠ .free) : lowestFree s = some b := by
  cases h : lowestFree s with
  | none => exact absurd hfree (lowestFree_none h b)
  | some c =>
    obtain ⟨hc, hbelow⟩ := lowestFree_spec h
    rcases Nat.lt_trichotomy c.val b.val with hlt | heq | hgt
    · exact absurd hc (hlowest c hlt)
    · rw [Fin.ext heq]
    · exact absurd hfree (hbelow b hgt)

section completion
variable {p : Port} {b : Token} {s : State}

/-- The state with the sent frame counted and its buffer settled, before the fault monitor is told (R45). -/
def settled (p : Port) (b : Token) (s : State) : State :=
  settleSent b (setTx p { s.tx.get p with sent := bump (s.tx.get p).sent } s)

theorem transmissionComplete_of_sending (h : (s.tx.get p).sending = some b) :
    transmissionComplete p s = idleAndPick p (statusSent p b (settled p b s)) := by
  unfold transmissionComplete
  split
  next hnone =>
    rw [h] at hnone
    cases hnone
  next c hsome =>
    rw [h] at hsome
    cases hsome
    rfl

/-- A sent buffer with no retainer is released (R45). -/
theorem settled_of_none (h : (buffer b s).retainer = none) :
    settled p b s = releaseBuffer b (setTx p { s.tx.get p with sent := bump (s.tx.get p).sent } s) := by
  simp only [settled, settleSent, buffer_setTx, h]

/-- A sent buffer with a retainer becomes RETAINED, and its slot is told (R45, R130). -/
theorem settled_of_some {d : Drive} (h : (buffer b s).retainer = some d) :
    settled p b s =
      tellSlot d b
        (setBufferState b .retained (setTx p { s.tx.get p with sent := bump (s.tx.get p).sent } s)) := by
  simp only [settled, settleSent, buffer_setTx, h]

theorem settled_traffic (p : Port) (b : Token) (s : State) : TrafficOnly s (settled p b s) :=
  (setTx_traffic p _ s).trans (settleSent_traffic b _)

theorem settled_tx (p : Port) (b : Token) (s : State) :
    (settled p b s).tx = s.tx.set p { s.tx.get p with sent := bump (s.tx.get p).sent } := by
  cases h : (buffer b s).retainer with
  | none => rw [settled_of_none h, releaseBuffer_tx, setTx_tx]
  | some d =>
    rw [settled_of_some h, tellSlot_tx]
    rfl

theorem settled_wanted (p : Port) (b : Token) (s : State) :
    (settled p b s).monitor.statusWanted = s.monitor.statusWanted := by
  unfold settled settleSent tellSlot releaseBuffer noticeRelease
  dsimp only
  split
  · split <;> rfl
  · split <;> rfl

theorem buffer_settled_of_none (h : (buffer b s).retainer = none) : buffer b (settled p b s) = Buffer.empty := by
  rw [settled_of_none h, buffer_releaseBuffer, if_pos rfl]

theorem buffer_settled_of_some {d : Drive} (h : (buffer b s).retainer = some d) :
    buffer b (settled p b s) = { buffer b s with state := .retained } := by
  rw [settled_of_some h, buffer_tellSlot, buffer_setBufferState, if_pos rfl, buffer_setTx]

theorem buffer_settled_of_ne {c : Token} (hc : c ≠ b) : buffer c (settled p b s) = buffer c s := by
  cases h : (buffer b s).retainer with
  | none => rw [settled_of_none h, buffer_releaseBuffer, if_neg hc.symm, buffer_setTx]
  | some d => rw [settled_of_some h, buffer_tellSlot, buffer_setBufferState, if_neg hc.symm, buffer_setTx]

theorem timer_settled {d : Drive} (h : (buffer b s).retainer = some d) (hstate : (s.drives.get d).state = .awaiting)
    (hretained : (s.drives.get d).retained = some b) :
    ((settled p b s).drives.get d).timer = some (ackTimeout s) := by
  rw [settled_of_some h]
  exact timer_tellSlot_of_awaiting (s := setBufferState b .retained (setTx p _ s)) hstate hretained

/-- The state after a completion with the status frame in hand no longer (R45). -/
def handEmptied (s : State) : State := { s with monitor := { s.monitor with statusInHand := none } }

/-- What the fault monitor does at a completion (R45, R171). -/
theorem statusSent_cases (p : Port) (b : Token) (s : State) :
    (p = .cockpit ∧ s.monitor.statusInHand = some b ∧ s.monitor.statusWanted = true
        ∧ statusSent p b s = originateStatus (handEmptied s))
      ∨ (¬(p = .cockpit ∧ s.monitor.statusInHand = some b ∧ s.monitor.statusWanted = true)
        ∧ (p = .cockpit ∧ s.monitor.statusInHand = some b ∧ statusSent p b s = handEmptied s
          ∨ ¬(p = .cockpit ∧ s.monitor.statusInHand = some b) ∧ statusSent p b s = s)) := by
  by_cases h : p = .cockpit ∧ s.monitor.statusInHand = some b
  · cases hw : s.monitor.statusWanted with
    | true => exact .inl ⟨h.1, h.2, rfl, by simp only [statusSent, h, hw, and_self, if_true, handEmptied]⟩
    | false =>
      exact .inr ⟨by simp, .inl ⟨h.1, h.2, by
        simp only [statusSent, h, hw, and_self, if_true, handEmptied, Bool.false_eq_true, if_false]⟩⟩
  · exact .inr ⟨fun hn => h ⟨hn.1, hn.2.1⟩, .inr ⟨h, if_neg h⟩⟩

theorem idleAndPick_tells (p : Port) (s : State) : Tells s (idleAndPick p s) := by
  have hidle (z : Transmitter) : Tells s (setTx p z s) := .of_same rfl rfl
  exact (hidle _).trans (pick_tells ..)

theorem idleAndPick_keepsWish (p : Port) (s : State) : KeepsWish s (idleAndPick p s) := by
  have hidle (z : Transmitter) : KeepsWish s (setTx p z s) := .of_same rfl rfl
  exact (hidle _).trans (pick_keepsWish ..)

theorem idle_get (p : Port) (s : State) :
    (setTx p { s.tx.get p with sending := none } s).tx.get p = { s.tx.get p with sending := none } :=
  ports_get_set_same ..

theorem sent_idleAndPick (p : Port) (s : State) : ((idleAndPick p s).tx.get p).sent = (s.tx.get p).sent := by
  obtain ⟨z, htx, hsent, -⟩ := pick_tx p (setTx p { s.tx.get p with sending := none } s)
  rw [idleAndPick, htx, ports_get_set_same, hsent, idle_get]

theorem buffer_idleAndPick_of_outOf (h : OutOf b (s.tx.get p)) : buffer b (idleAndPick p s) = buffer b s := by
  have h' : OutOf b ((setTx p { s.tx.get p with sending := none } s).tx.get p) := by
    rw [idle_get]
    exact h
  exact buffer_pick_of_outOf h'

theorem sending_idleAndPick_of_empty (hprio : (s.tx.get p).priority = []) (htransit : (s.tx.get p).transit = []) :
    ((idleAndPick p s).tx.get p).sending = none := by
  have hget := idle_get p s
  unfold idleAndPick pick
  generalize setTx p { s.tx.get p with sending := none } s = u at hget
  have hp : (u.tx.get p).priority = [] := by rw [hget]; exact hprio
  have ht : (u.tx.get p).transit = [] := by rw [hget]; exact htransit
  rw [ht, ageHeads, choose_of_empty hp ht, hget]

/-- A status frame originated while its port is busy waits on PRIORITY (R38, R171). -/
theorem originateStatus_of_busy {n : Token} (hfree : lowestFree s = some n) (hbusy : s.tx.cockpit.sending ≠ none) :
    (originateStatus s).tx = s.tx.set .cockpit { s.tx.cockpit with priority := s.tx.cockpit.priority ++ [n] }
      ∧ buffer n (originateStatus s) = statusBuffer s
      ∧ (originateStatus s).monitor.statusInHand = some n
      ∧ (originateStatus s).monitor.statusSeq = s.monitor.statusSeq + 1
      ∧ (originateStatus s).monitor.statusWanted = false := by
  obtain ⟨u, hlaunch, htx, -, hbuffer⟩ := launch_state hfree
  have hkeeps := take_setWanted_keepsStatus .poolExhausted false (holdForOrigin n s)
  have hstatus : (originateStatus s).monitor.statusInHand = some n
      ∧ (originateStatus s).monitor.statusSeq = s.monitor.statusSeq + 1 := by
    rw [originateStatus_of_free hfree]
    exact ⟨(launchStatus_status n _).1, (launchStatus_status n _).2.trans (congrArg (· + 1) hkeeps.seq)⟩
  have htx' : (headed n u).tx = s.tx := htx
  have hbusy' : ((headed n u).tx.get .cockpit).sending ≠ none := by rw [htx']; exact hbusy
  rw [enqueue_of_busy hbusy'] at hlaunch
  refine ⟨?_, ?_, hstatus.1, hstatus.2, ?_⟩
  · rw [hlaunch, joined_tx, htx']
    rfl
  · rw [hlaunch, buffer_joined, if_pos rfl, hbuffer]
  · rw [hlaunch]
    rfl

/-- The status frame originated at a completion stands on PRIORITY or is picked at once (R45, R171). -/
theorem idleAndPick_launched {n : Token} (hfree : lowestFree s = some n) (hbusy : s.tx.cockpit.sending ≠ none)
    (htransit : n ∉ s.tx.cockpit.transit) : StatusLaunched n s (idleAndPick .cockpit (originateStatus s)) := by
  obtain ⟨htx, hbuffer, hhand, hseq, hwanted⟩ := originateStatus_of_busy hfree hbusy
  have hpool := originateStatus_pool s
  rw [hfree] at hpool
  generalize originateStatus s = u at htx hbuffer hhand hseq hwanted hpool
  have hget : u.tx.get .cockpit = { s.tx.cockpit with priority := s.tx.cockpit.priority ++ [n] } := by
    rw [htx]
    rfl
  have htraffic := idleAndPick_traffic .cockpit u
  have hplace := pick_place (p := .cockpit) (b := n)
    (s := setTx .cockpit { u.tx.get .cockpit with sending := none } u)
    (by rw [idle_get, hget]; exact List.mem_append_right _ List.mem_cons_self)
    (by rw [idle_get, hget]; exact htransit)
  have hbytes : sentBytes .cockpit n (setTx .cockpit { u.tx.get .cockpit with sending := none } u) =
      withCheck ((buffer n u).bytes.take 4 ++ stateRecord u) := if_pos ⟨rfl, hhand⟩
  rw [hbytes, buffer_setTx, hbuffer] at hplace
  refine statusLaunched_of_place (stateRecord_length u) (htraffic.statusInHand.trans hhand) ?_
    ((idleAndPick_keepsWish ..).wanted_false hwanted) ?_ hplace
  · rw [htraffic.monitor]
    exact hseq
  · rw [faultRecord_of_faults htraffic.faults, hpool]
    rfl

end completion

/-- A refused claim of a status frame keeps the wish and asks for a notice of the next release (R171, R33). -/
theorem originateStatus_refused {s : State} (hnone : lowestFree s = none) (hhand : s.monitor.statusInHand = none)
    (hwanted : s.monitor.statusWanted = true) :
    (originateStatus s).monitor.statusInHand = none ∧ (originateStatus s).monitor.statusWanted = true
      ∧ (originateStatus s).pool.releaseNotice = true
      ∧ faultRecord .poolExhausted (originateStatus s) =
          takenRecord (severity .poolExhausted s) true (faultRecord .poolExhausted s) := by
  have hkeeps := take_setWanted_keepsStatus .poolExhausted true s
  have hrecord := originateStatus_pool s
  rw [hnone] at hrecord
  rw [originateStatus_of_none hnone] at hrecord ⊢
  exact ⟨hkeeps.inHand.trans hhand, hkeeps.wanted hwanted, rfl, hrecord⟩

/-- What the fault monitor does at a completion chains reactions from the state in which the status frame may be in hand
no longer, and takes no queue but the cockpit's. -/
theorem statusSent_reacts (p : Port) (b : Token) (s : State) :
    Reacts (handEmptied s) (statusSent p b s) ∧ p = .cockpit ∨ statusSent p b s = s := by
  rcases statusSent_cases p b s with ⟨hp, -, -, h⟩ | ⟨-, ⟨hp, -, h⟩ | ⟨-, h⟩⟩
  · exact .inl ⟨h ▸ originateStatus_reacts _, hp⟩
  · exact .inl ⟨h ▸ .refl _, hp⟩
  · exact .inr h

theorem sent_statusSent (p : Port) (b : Token) (s : State) :
    ((statusSent p b s).tx.get p).sent = (s.tx.get p).sent := by
  rcases statusSent_reacts p b s with ⟨h, -⟩ | h
  · exact h.sent p
  · rw [h]

theorem statusSent_tells (p : Port) (b : Token) (s : State) : Tells s (statusSent p b s) := by
  rcases statusSent_reacts p b s with ⟨h, -⟩ | h
  · have hempty : Tells s (handEmptied s) := .of_same rfl rfl
    exact hempty.trans h.tells
  · rw [h]
    exact .refl s

/-- A settled buffer that is not FREE stays out of the queues of its port while the fault monitor acts. -/
theorem statusSent_aside {p : Port} {b : Token} {s : State} (hfree : (buffer b s).state ≠ .free)
    (hout : OutOf b (s.tx.get p)) :
    buffer b (statusSent p b s) = buffer b s ∧ OutOf b ((statusSent p b s).tx.get p) := by
  rcases statusSent_reacts p b s with ⟨h, rfl⟩ | h
  · obtain ⟨hbuffer, hcockpit⟩ := h.aside hfree ⟨rfl, hout⟩
    exact ⟨hbuffer, hcockpit⟩
  · rw [h]
    exact ⟨rfl, hout⟩

theorem lowestFree_eq_none {s : State} (h : ∀ c, (buffer c s).state ≠ .free) : lowestFree s = none := by
  cases hfree : lowestFree s with
  | none => rfl
  | some c => exact absurd (lowestFree_spec hfree).1 (h c)

/-- A status frame launched at a completion, told from the state before it (R45). -/
theorem StatusLaunched.of_traffic {n : Token} {s u t : State} (h : StatusLaunched n (handEmptied u) t)
    (htraffic : TrafficOnly s u) : StatusLaunched n s t := by
  obtain ⟨hinHand, hseq, hwanted, hheader, harrival, hegress, hretainer, hplace, hpool⟩ := h
  have hsameSeq : (handEmptied u).monitor.statusSeq = s.monitor.statusSeq := by
    show u.monitor.statusSeq = s.monitor.statusSeq
    rw [htraffic.monitor]
  have hsameNode : (handEmptied u).node = s.node := htraffic.node
  have hsameRecord : faultRecord .poolExhausted (handEmptied u) = faultRecord .poolExhausted s :=
    faultRecord_of_faults htraffic.faults .poolExhausted
  have hsameSeverity : severity .poolExhausted (handEmptied u) = severity .poolExhausted s :=
    htraffic.reaction.severity .poolExhausted
  rw [hsameSeq] at hseq
  rw [hsameSeq, hsameNode] at hheader
  rw [hsameRecord, hsameSeverity] at hpool
  exact ⟨hinHand, hseq, hwanted, hheader, harrival.trans htraffic.now, hegress, hretainer, hplace, hpool⟩

/-- Settles O20: the buffer settled first, the status frame after it, and the pick last, each leaving what the others
have put. -/
theorem transmissionCompletionSettlesTheBuffer : Obligations.TransmissionCompletionSettlesTheBuffer := by
  intro p b s hreset hsending hprio htransit next released
  have hexec := (unlessReset_of_not_inReset (transmissionComplete p) hreset).trans
    (congrArg _ (transmissionComplete_of_sending hsending))
  have htraffic := settled_traffic p b s
  have hget : (settled p b s).tx.get p = { s.tx.get p with sent := bump (s.tx.get p).sent } := by
    rw [settled_tx, ports_get_set_same]
  have hout : OutOf b ((settled p b s).tx.get p) := by
    rw [hget]
    exact ⟨hprio, htransit⟩
  have hcases := statusSent_cases p b (settled p b s)
  rw [htraffic.statusInHand, settled_wanted] at hcases
  have hquiet : ¬next → buffer b (statusSent p b (settled p b s)) = buffer b (settled p b s)
      ∧ (statusSent p b (settled p b s)).tx = (settled p b s).tx := by
    intro hnext
    rcases hcases with ⟨hp, hb, hw, -⟩ | ⟨-, ⟨-, -, h⟩ | ⟨-, h⟩⟩
    · exact absurd ⟨hp, hb, hw⟩ hnext
    · rw [h]
      exact ⟨rfl, rfl⟩
    · rw [h]
      exact ⟨rfl, rfl⟩
  have hnextSent : next → statusSent p b (settled p b s) = originateStatus (handEmptied (settled p b s)) := by
    intro hnext
    rcases hcases with ⟨-, -, -, h⟩ | ⟨hnot, -⟩
    · exact h
    · exact absurd hnext hnot
  have hretained {d : Drive} (hret : (buffer b s).retainer = some d) :
      buffer b (idleAndPick p (statusSent p b (settled p b s))) = { buffer b s with state := .retained } := by
    have hsettled := buffer_settled_of_some (p := p) hret
    obtain ⟨hbuffer, hout'⟩ := statusSent_aside (by rw [hsettled]; simp) hout
    rw [buffer_idleAndPick_of_outOf hout', hbuffer, hsettled]
  refine ⟨_, hexec, ?_, fun hnext hret => ?_, fun d hret => ⟨?_, ?_, fun hstate hretained => ?_⟩,
    fun hp hb hw => ?_, fun hp ht hnext => ?_, fun hnext hret => ⟨?_, fun n hn hlowest hqueued => ?_⟩,
    fun hnext hret hfree => ?_, ?_⟩
  · rw [sent_idleAndPick, sent_statusSent, hget]
  · obtain ⟨hb, htx⟩ := hquiet hnext
    rw [buffer_idleAndPick_of_outOf (htx ▸ hout), hb, buffer_settled_of_none hret]
  · rw [hretained hret]
  · rw [hretained hret]
  · have htimeout : ackTimeout (settled p b s) = ackTimeout s := htraffic.param 4
    rw [← htimeout]
    refine ((statusSent_tells p b _).trans (idleAndPick_tells p _)).timer_of_started ?_
    rw [htimeout]
    exact timer_settled hret hstate hretained
  · rw [(idleAndPick_traffic p _).statusInHand]
    rcases hcases with ⟨-, -, hw', -⟩ | ⟨-, ⟨-, -, h⟩ | ⟨hnot, -⟩⟩
    · rw [hw] at hw'
      cases hw'
    · rw [h]
      rfl
    · exact absurd ⟨hp, hb⟩ hnot
  · obtain ⟨-, htx⟩ := hquiet hnext
    exact sending_idleAndPick_of_empty (by rw [htx, hget]; exact hp) (by rw [htx, hget]; exact ht)
  · rw [hnextSent hnext, settled_of_none hret]
    rfl
  · obtain ⟨rfl, hb, hw⟩ := hnext
    have hfree : lowestFree (handEmptied (settled .cockpit b s)) = some n := by
      refine lowestFree_eq_some (s := handEmptied (settled .cockpit b s)) ?_ fun c hc => ?_
      · show (buffer n (settled .cockpit b s)).state = .free
        by_cases hnb : n = b
        · rw [hnb, buffer_settled_of_none hret]
          rfl
        · rw [buffer_settled_of_ne hnb]
          exact hn.resolve_left hnb
      · show (buffer c (settled .cockpit b s)).state ≠ .free
        obtain ⟨hcb, hcfree⟩ := hlowest c hc
        rwa [buffer_settled_of_ne hcb]
    have hcockpit : (settled .cockpit b s).tx.cockpit = { s.tx.cockpit with sent := bump s.tx.cockpit.sent } := hget
    have hbusy : (handEmptied (settled .cockpit b s)).tx.cockpit.sending ≠ none := by
      show (settled .cockpit b s).tx.cockpit.sending ≠ none
      rw [hcockpit]
      show (s.tx.get .cockpit).sending ≠ none
      rw [hsending]
      simp
    have hnot : n ∉ (handEmptied (settled .cockpit b s)).tx.cockpit.transit := by
      show n ∉ (settled .cockpit b s).tx.cockpit.transit
      rw [hcockpit]
      exact (outOf_of_not_queued hqueued .cockpit).2
    rw [hnextSent ⟨rfl, hb, hw⟩]
    exact (idleAndPick_launched hfree hbusy hnot).of_traffic htraffic
  · have hnone : lowestFree (handEmptied (settled p b s)) = none := by
      obtain ⟨d, hd⟩ := Option.ne_none_iff_exists'.1 hret
      refine lowestFree_eq_none fun c => ?_
      show (buffer c (settled p b s)).state ≠ .free
      by_cases hc : c = b
      · rw [hc, buffer_settled_of_some hd]
        simp
      · rw [buffer_settled_of_ne hc]
        exact lowestFree_none hfree c
    have hwanted : (handEmptied (settled p b s)).monitor.statusWanted = true := (settled_wanted p b s).trans hnext.2.2
    obtain ⟨hhand, hwant, hnotice, hrecord⟩ := originateStatus_refused hnone rfl hwanted
    rw [hnextSent hnext]
    have hpick := idleAndPick_traffic p (originateStatus (handEmptied (settled p b s)))
    have hwish := idleAndPick_keepsWish p (originateStatus (handEmptied (settled p b s)))
    refine ⟨hpick.statusInHand.trans hhand, (hwish.wanted_of_none hhand).trans hwant, hwish.notice (.inl hnotice), ?_⟩
    rw [faultRecord_of_faults hpick.faults, hrecord]
    have hseverity : severity .poolExhausted (handEmptied (settled p b s)) = severity .poolExhausted s :=
      htraffic.reaction.severity .poolExhausted
    have hbefore : faultRecord .poolExhausted (handEmptied (settled p b s)) = faultRecord .poolExhausted s :=
      faultRecord_of_faults htraffic.faults .poolExhausted
    rw [hseverity, hbefore]
  · exact (htraffic.reaction.trans (statusSent_reaction p b _)).trans (idleAndPick_traffic p _).reaction

end Sys2Proof.Machine
end

section
/-! PROOF. Drive exchanges: commands handed over, acknowledgements and ack timers (R126 to R135). -/

namespace Sys2Proof.Machine

section slots
variable {d : Drive} {b : Token} {s : State}

/-! ## Buffers let go and withdrawn -/

theorem letGo_drives (b : Token) (s : State) : (letGo b s).drives = s.drives := by
  unfold letGo
  split
  · exact releaseBuffer_drives b s
  all_goals rfl

theorem onBuffer_letGo_drives (t : Option Token) (s : State) : (onBuffer letGo t s).drives = s.drives := by
  cases t with
  | none => rfl
  | some b => exact letGo_drives b s

theorem buffer_letGo_of_retained (h : (buffer b s).state = .retained) : buffer b (letGo b s) = Buffer.empty := by
  simp only [letGo, h]
  rw [buffer_releaseBuffer, if_pos rfl]

theorem buffer_letGo_of_standing (h : (buffer b s).state = .queued ∨ (buffer b s).state = .sending) :
    buffer b (letGo b s) = { buffer b s with retainer := none } := by
  have heq : letGo b s = setRetainer b none s := by rcases h with h | h <;> simp only [letGo, h]
  rw [heq]
  exact buffer_putBuffer_same ..

theorem withdraw_of_retained (h : (buffer b s).state = .retained) : withdraw b s = releaseBuffer b s := by
  simp only [withdraw, h]

theorem withdraw_of_queued (h : (buffer b s).state = .queued) : withdraw b s = releaseBuffer b (unqueue b s) := by
  simp only [withdraw, h]

theorem withdraw_of_sending (h : (buffer b s).state = .sending) : withdraw b s = setRetainer b none s := by
  simp only [withdraw, h]

theorem withdraw_of_idle (h : (buffer b s).state = .free ∨ (buffer b s).state = .receiving ∨ (buffer b s).state = .held) :
    withdraw b s = s := by
  rcases h with h | h | h <;> simp only [withdraw, h]

theorem buffer_withdraw_of_ne {c : Token} (hc : b ≠ c) : buffer c (withdraw b s) = buffer c s := by
  unfold withdraw
  split
  · rw [buffer_releaseBuffer, if_neg hc]
  · rw [buffer_releaseBuffer, if_neg hc]
    rfl
  · exact (buffer_putBuffer b c _ s).trans (if_neg hc)
  all_goals rfl

theorem unqueue_get (b : Token) (s : State) (p : Port) :
    (unqueue b s).tx.get p =
      { s.tx.get p with
        priority := (s.tx.get p).priority.filter (· != b), transit := (s.tx.get p).transit.filter (· != b) } := by
  cases p <;> rfl

/-! ## Acknowledgements -/

theorem deliverAck_of_match {payload : List Byte} (hlen : 2 ≤ payload.length)
    (hstate : (s.drives.get d).state = .awaiting) (hseq : (s.drives.get d).outstanding = some (byteAt payload 0)) :
    deliverAck d payload s = if byteAt payload 1 = 1 then ackOk d s else ackReject d s := by
  simp only [deliverAck, Nat.not_lt.2 hlen, if_false, hstate, hseq, and_self, if_true]

theorem deliverAck_of_late {payload : List Byte}
    (h : payload.length < 2 ∨ (s.drives.get d).state ≠ .awaiting
      ∨ (s.drives.get d).outstanding ≠ some (byteAt payload 0)) :
    deliverAck d payload s = lateAck d s := by
  unfold deliverAck
  dsimp only
  split
  · rfl
  next hlong =>
    have hno : ¬((s.drives.get d).state = .awaiting ∧ (s.drives.get d).outstanding = some (byteAt payload 0)) :=
      fun hmatch => (h.resolve_left hlong).elim (· hmatch.1) (· hmatch.2)
    exact if_neg hno

/-- The slot as a refused command leaves it, before its miss (R134). -/
def refusedSlot (y : DriveSlot) : DriveSlot := { emptied y .idle with rejectCount := bump y.rejectCount }

/-- A refused command's miss: the drive lost at MISS_LIMIT, else the slot IDLE (R134, R135). -/
theorem ackReject_eq (d : Drive) (s : State) : ackReject d s =
    if (s.drives.get d).misses + 1 = missLimit s then
      report (lostKind d) true
        (setSlot d (emptied (missed (refusedSlot (s.drives.get d))) .failed)
          (onBuffer letGo (s.drives.get d).retained s))
    else setSlot d (missed (refusedSlot (s.drives.get d))) (onBuffer letGo (s.drives.get d).retained s) := by
  have hlimit : missLimit (setSlot d (refusedSlot (s.drives.get d)) (onBuffer letGo (s.drives.get d).retained s))
      = missLimit s := missLimit_of_params (by
    show (onBuffer letGo (s.drives.get d).retained s).agent.params = _
    rw [(onBuffer_traffic letGo_traffic _ s).agent])
  have hslot : (setSlot d (refusedSlot (s.drives.get d)) (onBuffer letGo (s.drives.get d).retained s)).drives.get d
      = refusedSlot (s.drives.get d) := drives_get_set_same ..
  have heq : ackReject d s =
      countMiss d (setSlot d (refusedSlot (s.drives.get d)) (onBuffer letGo (s.drives.get d).retained s)) := rfl
  have hnothing (u : State) : onBuffer letGo (refusedSlot (s.drives.get d)).retained u = u := rfl
  have hmisses : (refusedSlot (s.drives.get d)).misses = (s.drives.get d).misses := rfl
  rw [heq, countMiss_eq, hlimit, hslot, hnothing, setSlot_setSlot, setSlot_setSlot, hmisses]

theorem reportedAlong_lostKind (d : Drive) : reportedAlong (lostKind d) = false := by cases d <;> rfl

/-- The drive is lost: the slot as it was emptied, and the tabled record of its kind (R135). -/
theorem report_lost {y : DriveSlot} (hy : y.retained = none) {u : State} (htraffic : TrafficOnly s u) :
    (report (lostKind d) true (setSlot d y u)).drives.get d = y
      ∧ faultRecord (lostKind d) (report (lostKind d) true (setSlot d y u)) =
          takenRecord (severity (lostKind d) s) true (faultRecord (lostKind d) s) := by
  have hslot : (setSlot d y u).drives.get d = y := drives_get_set_same ..
  have htells := (report_reacts (lostKind d) true (setSlot d y u)).tells
  obtain ⟨hrecord, -⟩ := report_record (lostKind d) true (setSlot d y u) (reportedAlong_lostKind d)
  have hseverity : severity (lostKind d) (setSlot d y u) = severity (lostKind d) s :=
    htraffic.reaction.severity (lostKind d)
  have hbefore : faultRecord (lostKind d) (setSlot d y u) = faultRecord (lostKind d) s :=
    faultRecord_of_faults htraffic.faults _
  refine ⟨(htells.slot_of_untold (.inr (by rw [hslot, hy]))).trans hslot, ?_⟩
  rw [hrecord, hseverity, hbefore]

end slots

/-- Settles O31: the slot and the buffer of each outcome of `deliverAck`. -/
theorem acknowledgementEndsTheCommandOrIsLate : Obligations.AcknowledgementEndsTheCommandOrIsLate := by
  intro d payload s x
  refine ⟨fun hlen hstate hseq hok => ?_, fun hlen hstate hseq hbad => ?_, fun h => ?_⟩
  · rw [deliverAck_of_match hlen hstate hseq, if_pos hok]
    have hbuffer {b : Token} (hret : x.retained = some b) : buffer b (ackOk d s) = buffer b (letGo b s) := by
      have heq : ackOk d s = setSlot d { emptied x .idle with misses := 0 } (onBuffer letGo x.retained s) := rfl
      rw [heq, hret]
      rfl
    refine ⟨?_, fun b hret hb => ?_, fun b hret hb => ?_⟩
    · show (onBuffer letGo x.retained s).drives.set d _ = _
      rw [onBuffer_letGo_drives]
      rfl
    · rw [hbuffer hret, buffer_letGo_of_retained hb]
    · rw [hbuffer hret, buffer_letGo_of_standing hb]
  · rw [deliverAck_of_match hlen hstate hseq, if_neg hbad, ackReject_eq]
    have htraffic := onBuffer_traffic letGo_traffic x.retained s
    by_cases hlimit : x.misses + 1 = missLimit s
    · obtain ⟨hslot, hrecord⟩ := report_lost (d := d) (y := emptied (missed (refusedSlot x)) .failed) rfl htraffic
      rw [if_pos hlimit]
      refine ⟨?_, fun _ => hrecord, fun hne => absurd hlimit hne⟩
      rw [hslot, if_pos hlimit]
      rfl
    · rw [if_neg hlimit]
      have hbuffer {b : Token} (hret : x.retained = some b) (y : DriveSlot) :
          buffer b (setSlot d y (onBuffer letGo x.retained s)) = buffer b (letGo b s) := by
        rw [hret]
        rfl
      refine ⟨?_, fun h => absurd h hlimit, fun _ => ⟨fun b hret hb => ?_, fun b hret hb => ?_⟩⟩
      · rw [setSlot_drives, drives_get_set_same, if_neg hlimit]
        rfl
      · rw [hbuffer hret, buffer_letGo_of_retained hb]
      · rw [hbuffer hret, buffer_letGo_of_standing hb]
  · rw [deliverAck_of_late h]
    rfl

/-! ## Commands handed over -/

section handing
variable {d : Drive} {b : Token} {q : Byte} {s : State}

/-- The slot with one more command sent (R126). -/
def oneSent (y : DriveSlot) : DriveSlot := { y with sentCount := bump y.sentCount }

theorem handOver_of_idle (h : (s.drives.get d).state = .idle) :
    handOver d b q s =
      setSlot d
        { oneSent (s.drives.get d) with state := .awaiting, outstanding := some q, retained := some b, retries := 0 }
        (setRetainer b (some d) s) := by
  have heq : handOver d b q s = takeCommand d b q (setSlot d (oneSent (s.drives.get d)) s) := by
    unfold handOver
    dsimp only
    split
    next => rfl
    next hother => cases h.symm.trans hother
    next hother => cases h.symm.trans hother
  rw [heq, takeCommand_setSlot]

theorem handOver_of_failed (h : (s.drives.get d).state = .failed) :
    handOver d b q s = setSlot d (oneSent (s.drives.get d)) s := by
  unfold handOver
  dsimp only
  split
  next hother => cases h.symm.trans hother
  next hother => cases h.symm.trans hother
  next => rfl

theorem handOver_of_awaiting (h : (s.drives.get d).state = .awaiting) :
    handOver d b q s =
      if ((supersede d (setSlot d (oneSent (s.drives.get d)) s)).drives.get d).state = .failed then
        supersede d (setSlot d (oneSent (s.drives.get d)) s)
      else takeCommand d b q (supersede d (setSlot d (oneSent (s.drives.get d)) s)) := by
  unfold handOver
  dsimp only
  split
  next hother => cases h.symm.trans hother
  next => rfl
  next hother => cases h.symm.trans hother

/-- A superseding command whose miss reaches MISS_LIMIT loses the drive (R128, R135). -/
theorem handOver_of_limit (h : (s.drives.get d).state = .awaiting)
    (hlimit : (s.drives.get d).misses + 1 = missLimit s) :
    handOver d b q s =
      report (lostKind d) true
        (setSlot d (emptied (missed (withdrawn (oneSent (s.drives.get d)))) .failed)
          (onBuffer withdraw (s.drives.get d).retained (setSlot d (oneSent (s.drives.get d)) s))) := by
  have hslot : (setSlot d (oneSent (s.drives.get d)) s).drives.get d = oneSent (s.drives.get d) :=
    drives_get_set_same ..
  have hstate : ((setSlot d (oneSent (s.drives.get d)) s).drives.get d).state = .awaiting := by rw [hslot]; exact h
  have hlimit' : ((setSlot d (oneSent (s.drives.get d)) s).drives.get d).misses + 1
      = missLimit (setSlot d (oneSent (s.drives.get d)) s) := by rw [hslot]; exact hlimit
  rw [handOver_of_awaiting h, slot_state_supersede hstate, if_pos hlimit', if_pos rfl, supersede_of_limit hlimit', hslot]
  rfl

/-- A superseding command whose miss stays below MISS_LIMIT is outstanding (R128, R127). -/
theorem handOver_of_below (h : (s.drives.get d).state = .awaiting)
    (hbelow : (s.drives.get d).misses + 1 ≠ missLimit s) :
    handOver d b q s =
      setSlot d
        { missed (withdrawn (oneSent (s.drives.get d))) with
          state := .awaiting, outstanding := some q, retained := some b, retries := 0 }
        (setRetainer b (some d)
          (onBuffer withdraw (s.drives.get d).retained (setSlot d (oneSent (s.drives.get d)) s))) := by
  have hslot : (setSlot d (oneSent (s.drives.get d)) s).drives.get d = oneSent (s.drives.get d) :=
    drives_get_set_same ..
  have hstate : ((setSlot d (oneSent (s.drives.get d)) s).drives.get d).state = .awaiting := by rw [hslot]; exact h
  have hbelow' : ((setSlot d (oneSent (s.drives.get d)) s).drives.get d).misses + 1
      ≠ missLimit (setSlot d (oneSent (s.drives.get d)) s) := by rw [hslot]; exact hbelow
  rw [handOver_of_awaiting h, slot_state_supersede hstate, if_neg hbelow', if_neg (by simp),
    supersede_of_below hbelow', takeCommand_setSlot, hslot]
  rfl

end handing

/-- Settles O30: the three slot states, the superseding one by the withdrawal of the old buffer. -/
theorem handOverTracksSupersedesOrOnlyCounts : Obligations.HandOverTracksSupersedesOrOnlyCounts := by
  intro d b q s x t missed'
  refine ⟨fun h => ?_, fun h => ?_, fun h hlimit => ?_, fun h hbelow => ?_⟩
  · exact handOver_of_idle h
  · exact handOver_of_failed h
  · have ht : t = _ := handOver_of_limit h hlimit
    have htraffic := onBuffer_traffic withdraw_traffic x.retained (setSlot d (oneSent x) s)
    obtain ⟨hslot, hrecord⟩ :=
      report_lost (d := d) (y := emptied (missed (withdrawn (oneSent x))) .failed) rfl htraffic
    rw [ht]
    exact ⟨hslot, hrecord⟩
  · have ht : t = _ := handOver_of_below h hbelow
    rw [ht]
    refine ⟨?_, fun o hret hne => ?_⟩
    · rw [setSlot_drives, drives_get_set_same]
      have hstate : missed'.state = .awaiting := h
      simp only [missed, withdrawn, oneSent, missed']
      rfl
    · have hret' : (s.drives.get d).retained = some o := hret
      rw [hret']
      have hbuffer (y : DriveSlot) (c : Token) :
          buffer c (setSlot d y (setRetainer b (some d) (onBuffer withdraw (some o) (setSlot d (oneSent x) s)))) =
            if b = c then { buffer b (withdraw o (setSlot d (oneSent x) s)) with retainer := some d }
            else buffer c (withdraw o (setSlot d (oneSent x) s)) := buffer_putBuffer b c _ _
      have hsame (c : Token) : buffer c (setSlot d (oneSent x) s) = buffer c s := rfl
      refine ⟨?_, fun c hco hcb => ?_, fun ho => ⟨?_, ?_⟩, fun ho => ⟨?_, fun p => ?_⟩, fun ho => ⟨?_, ?_⟩⟩
      · rw [hbuffer, if_pos rfl, buffer_withdraw_of_ne hne, hsame]
      · rw [hbuffer, if_neg hcb.symm, buffer_withdraw_of_ne hco.symm, hsame]
      · rw [hbuffer, if_neg hne.symm, withdraw_of_retained (s := setSlot d (oneSent x) s) ho, buffer_releaseBuffer, if_pos rfl]
      · show (withdraw o (setSlot d (oneSent x) s)).tx = s.tx
        rw [withdraw_of_retained (s := setSlot d (oneSent x) s) ho, releaseBuffer_tx]
        rfl
      · rw [hbuffer, if_neg hne.symm, withdraw_of_queued (s := setSlot d (oneSent x) s) ho, buffer_releaseBuffer, if_pos rfl]
      · show (withdraw o (setSlot d (oneSent x) s)).tx.get p = _
        rw [withdraw_of_queued (s := setSlot d (oneSent x) s) ho, releaseBuffer_tx, unqueue_get]
        rfl
      · rw [hbuffer, if_neg hne.symm, withdraw_of_sending (s := setSlot d (oneSent x) s) ho]
        exact buffer_putBuffer_same ..
      · show (withdraw o (setSlot d (oneSent x) s)).tx = s.tx
        rw [withdraw_of_sending (s := setSlot d (oneSent x) s) ho]
        rfl

/-! ## Ack timers -/

section expiry
variable {d : Drive} {b : Token} {s : State}

/-- The slot with its ack timer stopped by the expiry (R131). -/
def timedOut (y : DriveSlot) : DriveSlot := { y with timer := none }

theorem ackTimerExpiry_of_due (hstate : (s.drives.get d).state = .awaiting) (hdue : (s.drives.get d).timer = some 0) :
    ackTimerExpiry d s =
      if ((countMiss d (setSlot d (timedOut (s.drives.get d)) s)).drives.get d).state = .failed then
        countMiss d (setSlot d (timedOut (s.drives.get d)) s)
      else retryOrEnd d (countMiss d (setSlot d (timedOut (s.drives.get d)) s)) := by
  exact if_pos ⟨timerDue_of_zero hdue, hstate⟩

/-- An expiry whose miss reaches MISS_LIMIT loses the drive (R131, R135). -/
theorem ackTimerExpiry_of_limit (hstate : (s.drives.get d).state = .awaiting)
    (hdue : (s.drives.get d).timer = some 0) (hlimit : (s.drives.get d).misses + 1 = missLimit s) :
    ackTimerExpiry d s =
      report (lostKind d) true
        (setSlot d (emptied (missed (timedOut (s.drives.get d))) .failed)
          (onBuffer letGo (s.drives.get d).retained (setSlot d (timedOut (s.drives.get d)) s))) := by
  have hslot : (setSlot d (timedOut (s.drives.get d)) s).drives.get d = timedOut (s.drives.get d) :=
    drives_get_set_same ..
  have hlimit' : ((setSlot d (timedOut (s.drives.get d)) s).drives.get d).misses + 1
      = missLimit (setSlot d (timedOut (s.drives.get d)) s) := by rw [hslot]; exact hlimit
  have hmiss := countMiss_eq d (setSlot d (timedOut (s.drives.get d)) s)
  rw [if_pos hlimit', hslot] at hmiss
  have hlost := (report_lost (d := d) (y := emptied (missed (timedOut (s.drives.get d))) .failed) rfl
    (onBuffer_traffic letGo_traffic (timedOut (s.drives.get d)).retained
      (setSlot d (timedOut (s.drives.get d)) s))).1
  have hfailed : (emptied (missed (timedOut (s.drives.get d))) .failed).state = .failed := rfl
  rw [ackTimerExpiry_of_due hstate hdue, hmiss, hlost, if_pos hfailed]
  rfl

/-- An expiry whose miss stays below MISS_LIMIT goes on to a retry or the end (R131). -/
theorem ackTimerExpiry_of_below (hstate : (s.drives.get d).state = .awaiting)
    (hdue : (s.drives.get d).timer = some 0) (hbelow : (s.drives.get d).misses + 1 ≠ missLimit s) :
    ackTimerExpiry d s = retryOrEnd d (setSlot d (missed (timedOut (s.drives.get d))) s) := by
  have hslot : (setSlot d (timedOut (s.drives.get d)) s).drives.get d = timedOut (s.drives.get d) :=
    drives_get_set_same ..
  have hbelow' : ((setSlot d (timedOut (s.drives.get d)) s).drives.get d).misses + 1
      ≠ missLimit (setSlot d (timedOut (s.drives.get d)) s) := by rw [hslot]; exact hbelow
  have hmiss := countMiss_eq d (setSlot d (timedOut (s.drives.get d)) s)
  rw [if_neg hbelow', hslot, setSlot_setSlot] at hmiss
  rw [ackTimerExpiry_of_due hstate hdue, hmiss, setSlot_drives, drives_get_set_same, if_neg]
  have hawait : (missed (timedOut (s.drives.get d))).state = .awaiting := hstate
  rw [hawait]
  simp

end expiry

/-- Settles O32: the miss first; below MISS_LIMIT the retry, with the place of its buffer, or the end. -/
theorem ackExpiryRetriesEndsOrFails : Obligations.AckExpiryRetriesEndsOrFails := by
  intro d b s x hreset hstate hdue hret hbuffer
  refine ⟨_, unlessReset_of_not_inReset _ hreset, ?_⟩
  have hexchange := ackTimerExpiry_exchange d s
  have hrest : (ackTimerExpiry d s).classifier = s.classifier ∧ (ackTimerExpiry d s).channels = s.channels
      ∧ (ackTimerExpiry d s).envelope = s.envelope ∧ (ackTimerExpiry d s).agent = s.agent
      ∧ (ackTimerExpiry d s).rx = s.rx ∧ (ackTimerExpiry d s).shaper = s.shaper :=
    ⟨hexchange.classifier, hexchange.channels, hexchange.envelope, hexchange.agent, hexchange.rx, hexchange.shaper⟩
  by_cases hlimit : x.misses + 1 = missLimit s
  · have htraffic := onBuffer_traffic letGo_traffic x.retained (setSlot d (timedOut x) s)
    obtain ⟨hslot, hrecord⟩ := report_lost (d := d) (y := emptied (missed (timedOut x)) .failed) rfl htraffic
    refine ⟨?_, ?_, fun _ => ?_, fun hne => absurd hlimit hne, fun hne => absurd hlimit hne, hrest⟩
    · rw [ackTimerExpiry_of_limit hstate hdue hlimit, hslot]
      rfl
    · rw [ackTimerExpiry_of_limit hstate hdue hlimit, hslot]
      rfl
    · rw [ackTimerExpiry_of_limit hstate hdue hlimit, hslot]
      exact ⟨rfl, rfl, rfl, rfl, hrecord⟩
  · have heq := ackTimerExpiry_of_below hstate hdue hlimit
    have hslot : (setSlot d (missed (timedOut x)) s).drives.get d = missed (timedOut x) := drives_get_set_same ..
    have hret' : (missed (timedOut x)).retained = some b := hret
    by_cases hretry : x.retries < retryLimit s
    · have hturn : retryOrEnd d (setSlot d (missed (timedOut x)) s) =
          enqueue ((buffer b s).egress.getD .chassis) .priority b
            (setSlot d { missed (timedOut x) with retries := x.retries + 1, retryCount := bump x.retryCount } s) := by
        have hretry' : (missed (timedOut x)).retries < retryLimit (setSlot d (missed (timedOut x)) s) := hretry
        simp only [retryOrEnd, hslot, hret', hretry', if_true, retry, setSlot_setSlot]
        rfl
      have hafter (u : State) (p : Port) : (enqueue p .priority b u).drives.get d =
          { u.drives.get d with timer := ((enqueue p .priority b u).drives.get d).timer } :=
        (enqueue_traffic p .priority b u).slot d
      rw [heq, hturn] at hrest ⊢
      rw [hafter, setSlot_drives, drives_get_set_same]
      refine ⟨rfl, rfl, fun h => absurd h hlimit, fun _ _ => ⟨hstate, rfl, hret, rfl, rfl, fun e he hqueued => ?_⟩,
        fun _ hend => absurd hretry (Nat.not_lt.2 hend), hrest⟩
      rw [he, Option.getD_some]
      have htransit : b ∉ ((setSlot d { missed (timedOut x) with
          retries := x.retries + 1, retryCount := bump x.retryCount } s).tx.get e).transit :=
        (outOf_of_not_queued hqueued e).2
      rcases enqueue_place htransit with ⟨hin, hb⟩ | ⟨hsending, hb⟩
      · exact .inl ⟨hin, by rw [hb]; rfl⟩
      · exact .inr ⟨hsending, by rw [hb]⟩
    · have hturn : retryOrEnd d (setSlot d (missed (timedOut x)) s) =
          setSlot d (emptied (missed (timedOut x)) .idle) (letGo b (setSlot d (missed (timedOut x)) s)) := by
        have hretry' : ¬(missed (timedOut x)).retries < retryLimit (setSlot d (missed (timedOut x)) s) := hretry
        simp only [retryOrEnd, hslot, hret', hretry', if_false]
      rw [heq, hturn] at hrest ⊢
      rw [setSlot_drives, drives_get_set_same]
      refine ⟨rfl, rfl, fun h => absurd h hlimit, fun _ h => absurd h hretry,
        fun _ _ => ⟨rfl, rfl, rfl, rfl, ?_⟩, hrest⟩
      exact buffer_letGo_of_retained (s := setSlot d (missed (timedOut x)) s) hbuffer

end Sys2Proof.Machine
end

section
/-!
PROOF. The agent's list of requests (R181, R182, R183).
-/
namespace Sys2Proof.Machine

/-! ## Requests begun and dropped -/

section listed
variable {r : Request} {rest : List Request} {s : State}

/-- The list without the request at its head, and none in hand. -/
def headTaken (rest : List Request) (s : State) : State :=
  { s with agent := { s.agent with requests := rest, inHand := none } }

theorem nextRequest_eq_beginFrom (s : State) :
    nextRequest s = beginFrom s.agent.requests { s with agent := { s.agent with inHand := none } } := by
  rw [nextRequest, beginRequests, if_pos rfl]

theorem beginRequests_eq_nextRequest (h : s.agent.inHand = none) : beginRequests s = nextRequest s := by
  rw [nextRequest, ← h]

theorem nextRequest_of_nil (h : s.agent.requests = []) :
    nextRequest s = { s with agent := { s.agent with inHand := none } } := by
  rw [nextRequest_eq_beginFrom, h, beginFrom, ← h]

/-- The request at the head is begun with a FREE buffer for its reply (R182). -/
theorem nextRequest_of_free {b : Token} (h : s.agent.requests = r :: rest) (hfree : lowestFree s = some b) :
    (nextRequest s).agent =
      { s.agent with requests := rest, inHand := some { request := r.buffer, reply := b, port := r.port } } := by
  have hfree' : lowestFree (headTaken rest s) = some b := hfree
  have hagent : (report .poolExhausted false (holdForOrigin b (headTaken rest s))).agent = (headTaken rest s).agent :=
    (report_reaction .poolExhausted false (holdForOrigin b (headTaken rest s))).agent
  have hbegun : nextRequest s =
      { report .poolExhausted false (holdForOrigin b (headTaken rest s)) with
        agent :=
          { (report .poolExhausted false (holdForOrigin b (headTaken rest s))).agent with
            inHand := some { request := r.buffer, reply := b, port := r.port } } } := by
    rw [nextRequest_eq_beginFrom, h, beginFrom]
    change (match claimOrigin (headTaken rest s) with | (some t, claimed) => _ | (none, refused) => _) = _
    rw [claimOrigin_of_free hfree']
  rw [hbegun, hagent]
  rfl

theorem dropRequest_agent (b : Token) (s : State) :
    (dropRequest b s).agent =
      { s.agent with counters := { s.agent.counters with dropped := bump s.agent.counters.dropped } } := by
  have hagent : (releaseBuffer b s).agent = s.agent := (releaseBuffer_traffic b s).agent
  rw [dropRequest, setAgentCounters, hagent]

theorem buffer_dropRequest (b : Token) (s : State) : buffer b (dropRequest b s) = Buffer.empty :=
  (buffer_releaseBuffer b b s).trans (if_pos rfl)

theorem claimOrigin_agent (s : State) : (claimOrigin s).2.agent = s.agent := (claimOrigin_reaction s).agent

/-- With no buffer FREE the request at the head is dropped, and the next one is begun (R182). -/
theorem nextRequest_of_none (h : s.agent.requests = r :: rest) (hnone : lowestFree s = none) :
    nextRequest s = nextRequest (dropRequest r.buffer (claimOrigin (headTaken rest s)).2) := by
  have hnone' : lowestFree (headTaken rest s) = none := hnone
  have hagent := dropRequest_agent r.buffer (claimOrigin (headTaken rest s)).2
  rw [claimOrigin_agent] at hagent
  have hidle : (dropRequest r.buffer (claimOrigin (headTaken rest s)).2).agent.inHand = none := by rw [hagent]; rfl
  have hrest : (dropRequest r.buffer (claimOrigin (headTaken rest s)).2).agent.requests = rest := by rw [hagent]; rfl
  rw [← beginRequests_eq_nextRequest hidle, beginRequests, if_pos hidle, hrest, nextRequest_eq_beginFrom, h, beginFrom]
  change (match claimOrigin (headTaken rest s) with | (some t, claimed) => _ | (none, refused) => _) = _
  rw [claimOrigin_of_none hnone']

end listed

/-- Settles O44: the list of a request more, and its head begun with a FREE buffer or dropped. -/
theorem requestsAreListedBegunAndDropped : Obligations.RequestsAreListedBegunAndDropped := by
  refine ⟨fun b p s => ⟨fun h => if_neg h, fun h => beginRequests_eq_nextRequest h⟩,
    fun s h => nextRequest_of_nil h, fun r rest s h => ⟨fun b hfree => ?_, fun hnone => ⟨?_, ?_, ?_⟩⟩⟩
  · exact ⟨nextRequest_of_free h hfree, nextRequest_request s⟩
  · exact nextRequest_of_none h hnone
  · exact buffer_dropRequest ..
  · exact (dropRequest_agent r.buffer (claimOrigin (headTaken rest s)).2).trans (by rw [claimOrigin_agent]; rfl)

end Sys2Proof.Machine
end

section
/-!
PROOF. A frame built in a HELD buffer, and where it stands once it is queued on PRIORITY (R38, R44, R104, R107).
-/
namespace Sys2Proof.Machine

/-! ## A frame on its way -/

/-- Buffer `b` is HELD with this frame, in no queue of a port and in no other hand: it may be queued at `p`. -/
structure Loose (p : Port) (b : Token) (bytes : List Byte) (arrival : Nat) (s : State) : Prop where
  state : (buffer b s).state = .held
  bytes : (buffer b s).bytes = bytes
  arrival : (buffer b s).arrival = arrival
  outOf : ∀ e, OutOf b (s.tx.get e)
  hand : p = .cockpit → s.monitor.statusInHand ≠ some b

/-- Buffer `b` waits with this frame on PRIORITY of `p`, or is in transmission there. -/
structure Posted (p : Port) (b : Token) (bytes : List Byte) (arrival : Nat) (s : State) : Prop where
  bytes : (buffer b s).bytes = bytes
  arrival : (buffer b s).arrival = arrival
  place : (b ∈ (s.tx.get p).priority ∧ (buffer b s).state = .queued)
    ∨ ((s.tx.get p).sending = some b ∧ (buffer b s).state = .sending)
  transit : b ∉ (s.tx.get p).transit
  opposite : OutOf b (s.tx.get p.opposite)
  hand : p = .cockpit → s.monitor.statusInHand ≠ some b

section
variable {p : Port} {b c : Token} {bytes : List Byte} {stamp : Nat} {s t : State}

theorem Loose.of_same (h : Loose p b bytes stamp s) (hbuffer : buffer b t = buffer b s) (htx : t.tx = s.tx)
    (hhand : t.monitor.statusInHand = s.monitor.statusInHand) : Loose p b bytes stamp t :=
  ⟨hbuffer ▸ h.state, hbuffer ▸ h.bytes, hbuffer ▸ h.arrival, htx ▸ h.outOf, hhand ▸ h.hand⟩

theorem Posted.of_same (h : Posted p b bytes stamp s) (hbuffer : buffer b t = buffer b s) (htx : t.tx = s.tx)
    (hhand : t.monitor.statusInHand = s.monitor.statusInHand) : Posted p b bytes stamp t :=
  ⟨hbuffer ▸ h.bytes, hbuffer ▸ h.arrival, by rw [htx, hbuffer]; exact h.place, htx ▸ h.transit, htx ▸ h.opposite,
    hhand ▸ h.hand⟩

theorem Posted.not_free (h : Posted p b bytes stamp s) : (buffer b s).state ≠ .free := by
  rcases h.place with ⟨-, hstate⟩ | ⟨-, hstate⟩ <;> simp [hstate]

/-! ## Other buffers queued meanwhile -/

theorem Loose.enqueue_other (h : Loose p b bytes stamp s) (hne : c ≠ b) (e : Port) (q : Queue) :
    Loose p b bytes stamp (enqueue e q c s) := by
  have hbuffer := buffer_enqueue_of_outOf (q := q) hne (h.outOf e)
  exact ⟨hbuffer ▸ h.state, hbuffer ▸ h.bytes, hbuffer ▸ h.arrival, fun f => enqueue_outOf hne f (h.outOf f),
    fun hp => (enqueue_traffic e q c s).statusInHand ▸ h.hand hp⟩

/-- A buffer queued at the other port passes the frame by. -/
theorem Posted.enqueue_opposite (h : Posted p b bytes stamp s) (hne : c ≠ b) (q : Queue) :
    Posted p b bytes stamp (enqueue p.opposite q c s) := by
  have hbuffer := buffer_enqueue_of_outOf (q := q) hne h.opposite
  obtain ⟨z, htx, -⟩ := enqueue_tx p.opposite q c s
  have hport : (enqueue p.opposite q c s).tx.get p = s.tx.get p := by
    rw [htx, ports_get_set, if_neg (by cases p <;> simp [Port.opposite])]
  exact ⟨hbuffer ▸ h.bytes, hbuffer ▸ h.arrival, by rw [hport, hbuffer]; exact h.place, by rw [hport]; exact h.transit,
    enqueue_outOf hne _ h.opposite, fun hp => (enqueue_traffic _ q c s).statusInHand ▸ h.hand hp⟩

/-- A buffer joining PRIORITY at the same port stands behind the frame. -/
theorem joined_posted (h : Posted p b bytes stamp s) (hne : c ≠ b) : Posted p b bytes stamp (joined p .priority c s) := by
  have hbuffer : buffer b (joined p .priority c s) = buffer b s := by rw [buffer_joined, if_neg hne]
  have hport : (joined p .priority c s).tx.get p = withTail .priority c (s.tx.get p) := by
    rw [joined_tx, ports_get_set_same]
  refine ⟨hbuffer ▸ h.bytes, hbuffer ▸ h.arrival, ?_, ?_, joined_outOf hne _ h.opposite,
    fun hp => (joined_traffic p .priority c s).statusInHand ▸ h.hand hp⟩
  · rw [hport, hbuffer]
    exact h.place.imp_left (And.imp_left (List.mem_append_left _))
  · rw [hport]
    exact h.transit

/-- A pick at an idle port leaves the frame on PRIORITY or takes it into transmission. -/
theorem pick_posted (h : Posted p b bytes stamp s) (hidle : (s.tx.get p).sending = none) :
    Posted p b bytes stamp (pick p s) := by
  obtain ⟨hin, hqueued⟩ := h.place.resolve_right (fun hs => by simp [hidle] at hs)
  have hsent : sentBytes p b s = bytes := (sentBytes_of_other fun hst => h.hand hst.1 hst.2).trans h.bytes
  obtain ⟨z, htx, -, -, htransit⟩ := pick_tx p s
  have hout : b ∉ ((pick p s).tx.get p).transit := by
    rw [htx, ports_get_set_same]
    exact fun hb => h.transit (htransit hb)
  have hhand (hp : p = .cockpit) : (pick p s).monitor.statusInHand ≠ some b :=
    (pick_traffic p s).statusInHand ▸ h.hand hp
  rcases pick_place hin h.transit with ⟨hin', hbuffer⟩ | ⟨hsending, hbuffer⟩
  · exact ⟨hbuffer ▸ h.bytes, hbuffer ▸ h.arrival, .inl ⟨hin', hbuffer ▸ hqueued⟩, hout, pick_outOf _ h.opposite, hhand⟩
  · exact ⟨by rw [hbuffer, hsent], by rw [hbuffer]; exact h.arrival, .inr ⟨hsending, by rw [hbuffer]⟩, hout,
      pick_outOf _ h.opposite, hhand⟩

theorem Posted.enqueue_other (h : Posted p b bytes stamp s) (hne : c ≠ b) (e : Port) :
    Posted p b bytes stamp (enqueue e .priority c s) := by
  by_cases he : e = p
  · subst he
    rw [enqueue_eq]
    split
    next hidle =>
      refine pick_posted (joined_posted h hne) ?_
      rw [joined_tx, ports_get_set_same]
      exact hidle
    next => exact joined_posted h hne
  · have hopp : e = p.opposite := by cases e <;> cases p <;> simp_all [Port.opposite]
    rw [hopp]
    exact h.enqueue_opposite hne _

/-- A loose frame that is queued is posted. -/
theorem enqueue_posted (h : Loose p b bytes stamp s) : Posted p b bytes stamp (enqueue p .priority b s) := by
  have hsent : sentBytes p b s = bytes := (sentBytes_of_other fun hst => h.hand hst.1 hst.2).trans h.bytes
  have hport : (enqueue p .priority b s).tx.get p.opposite = s.tx.get p.opposite := by
    obtain ⟨z, htx, -⟩ := enqueue_tx p .priority b s
    rw [htx, ports_get_set, if_neg (by cases p <;> simp [Port.opposite])]
  have hjoined : b ∉ ((joined p .priority b s).tx.get p).transit := by
    rw [joined_tx, ports_get_set_same]
    exact (h.outOf p).2
  have hout : b ∉ ((enqueue p .priority b s).tx.get p).transit := by
    rw [enqueue_eq]
    split
    · obtain ⟨z, htx, -, -, htransit⟩ := pick_tx p (joined p .priority b s)
      rw [htx, ports_get_set_same]
      exact fun hb => hjoined (htransit hb)
    · exact hjoined
  have hopposite : OutOf b ((enqueue p .priority b s).tx.get p.opposite) := hport ▸ h.outOf _
  have hhand (hp : p = .cockpit) : (enqueue p .priority b s).monitor.statusInHand ≠ some b :=
    (enqueue_traffic p .priority b s).statusInHand ▸ h.hand hp
  rcases enqueue_place (h.outOf p).2 with ⟨hin, hbuffer⟩ | ⟨hsending, hbuffer⟩
  · exact ⟨by rw [hbuffer]; exact h.bytes, by rw [hbuffer]; exact h.arrival, .inl ⟨hin, by rw [hbuffer]; rfl⟩, hout,
      hopposite, hhand⟩
  · exact ⟨by rw [hbuffer, hsent], by rw [hbuffer]; exact h.arrival, .inr ⟨hsending, by rw [hbuffer]⟩, hout,
      hopposite, hhand⟩

/-! ## Reports meanwhile -/

theorem Reacts.loose (hr : Reacts s t) (h : Loose p b bytes stamp s) : Loose p b bytes stamp t := by
  have hstate : (buffer b s).state ≠ .free := by simp [h.state]
  have haside : Aside b (buffer b s) s := ⟨rfl, h.outOf .cockpit⟩
  obtain ⟨hbuffer, hcockpit⟩ := hr.aside hstate haside
  refine ⟨hbuffer ▸ h.state, hbuffer ▸ h.bytes, hbuffer ▸ h.arrival, fun e => ?_,
    fun hp => hr.hand hstate haside (h.hand hp)⟩
  cases e with
  | cockpit => exact hcockpit
  | chassis =>
    have hchassis : t.tx.get .chassis = s.tx.get .chassis := hr.chassis
    exact hchassis ▸ h.outOf .chassis

theorem Reacts.posted (hr : Reacts s t) (h : Posted p b bytes stamp s) : Posted p b bytes stamp t := by
  induction hr with
  | refl | fall | want | notice => exact h.of_same rfl rfl rfl
  | trans _ _ ih ih' => exact ih' (ih h)
  | rise _ _ _ _ ih => exact (ih (h.of_same rfl rfl rfl)).of_same rfl rfl rfl
  | inhibit s =>
    rw [lockInhibit_eq]
    exact h.of_same rfl rfl rfl
  | leave _ _ ih =>
    rw [lockModeLeft_eq]
    exact (ih (h.of_same rfl rfl rfl)).of_same rfl rfl rfl
  | @originate s u c hfree _ _ ih =>
    have hne : c ≠ b := by
      rintro rfl
      exact h.not_free (lowestFree_spec hfree).1
    have hheld : Posted p b bytes stamp (holdForOrigin c s) :=
      h.of_same ((buffer_holdForOrigin c b s).trans (if_neg hne)) rfl rfl
    obtain ⟨hbytes, harrival, hplace, htransit, hopposite, -⟩ := ih hheld
    have hbuffer : buffer b (headed c u) = buffer b u := (buffer_headed c b u).trans (if_neg hne)
    have hheaded : Posted p b bytes stamp (headed c u) :=
      ⟨hbuffer ▸ hbytes, hbuffer ▸ harrival, hbuffer ▸ hplace, htransit, hopposite,
        fun _ heq => hne (Option.some.inj heq)⟩
    rw [launchStatus_eq]
    exact hheaded.enqueue_other hne _

/-! ## A command handed over meanwhile -/

theorem onBuffer_withdraw_loose (h : Loose p b bytes stamp s) (o : Option Token) :
    Loose p b bytes stamp (onBuffer withdraw o s) := by
  cases o with
  | none => exact h
  | some o =>
    show Loose p b bytes stamp (withdraw o s)
    by_cases hne : o = b
    · rw [hne, withdraw_of_idle (.inr (.inr h.state))]
      exact h
    · have hbuffer := buffer_withdraw_of_ne (s := s) hne
      have hhand := (withdraw_traffic o s).statusInHand
      refine ⟨hbuffer ▸ h.state, hbuffer ▸ h.bytes, hbuffer ▸ h.arrival, fun e => ?_, fun hp => hhand ▸ h.hand hp⟩
      obtain ⟨hprio, htransit⟩ := h.outOf e
      have hcut : OutOf b ((unqueue o s).tx.get e) := by
        rw [unqueue_get]
        exact ⟨fun hb => hprio (List.mem_filter.1 hb).1, fun hb => htransit (List.mem_filter.1 hb).1⟩
      unfold withdraw
      split
      · rw [releaseBuffer_tx]
        exact h.outOf e
      · rw [releaseBuffer_tx]
        exact hcut
      all_goals exact h.outOf e

theorem setRetainer_loose (h : Loose p b bytes stamp s) (c : Token) (r : Option Drive) :
    Loose p b bytes stamp (setRetainer c r s) := by
  have hbuffer : buffer b (setRetainer c r s) = if c = b then { buffer c s with retainer := r } else buffer b s :=
    buffer_putBuffer c b _ s
  by_cases hc : c = b
  · subst hc
    rw [if_pos rfl] at hbuffer
    exact ⟨by rw [hbuffer]; exact h.state, by rw [hbuffer]; exact h.bytes, by rw [hbuffer]; exact h.arrival, h.outOf,
      h.hand⟩
  · rw [if_neg hc] at hbuffer
    exact h.of_same hbuffer rfl rfl

/-- A command handed over takes no frame out of a HELD buffer. -/
theorem handOver_loose (h : Loose p b bytes stamp s) (d : Drive) (c : Token) (q : Byte) :
    Loose p b bytes stamp (handOver d c q s) := by
  have hslot {u : State} (hu : Loose p b bytes stamp u) (y : DriveSlot) : Loose p b bytes stamp (setSlot d y u) :=
    hu.of_same rfl rfl rfl
  cases hstate : (s.drives.get d).state with
  | idle =>
    rw [handOver_of_idle hstate]
    exact hslot (setRetainer_loose h ..) _
  | failed =>
    rw [handOver_of_failed hstate]
    exact hslot h _
  | awaiting =>
    have hwithdrawn := onBuffer_withdraw_loose (hslot h (oneSent (s.drives.get d))) (s.drives.get d).retained
    by_cases hlimit : (s.drives.get d).misses + 1 = missLimit s
    · rw [handOver_of_limit hstate hlimit]
      exact (report_reacts ..).loose (hslot hwithdrawn _)
    · rw [handOver_of_below hstate hlimit]
      exact hslot (setRetainer_loose hwithdrawn ..) _

end

end Sys2Proof.Machine
end

section
/-!
PROOF. The parts of a completion: what the tilt command, the excursion, the lock's report and the pending commit leave
of the lean law, and where their frames go (R102 to R108).
-/
namespace Sys2Proof.Machine

/-! ## What the parts of a completion leave -/

/-- The mode, the tilt sequence, the excursion run and their counters are all that may differ of the lean law, and
CYCLE_OVERRUN is as before. -/
structure CycleFlow (s t : State) : Prop extends ExchangeOnly s t where
  lean :
    t.lean =
      { s.lean with
        mode := t.lean.mode, tiltSeq := t.lean.tiltSeq, excursionRun := t.lean.excursionRun
        counters :=
          { s.lean.counters with
            originated := t.lean.counters.originated, lost := t.lean.counters.lost
            excursionCycles := t.lean.counters.excursionCycles } }
  bridge : s.lean.mode ≠ .bridge → t.lean.mode ≠ .bridge
  overrun : faultRecord .cycleOverrun t = faultRecord .cycleOverrun s

/-- No tilt command is sent or lost on the way from `s` to `t`. -/
structure TiltKept (s t : State) : Prop where
  originated : t.lean.counters.originated = s.lean.counters.originated
  lost : t.lean.counters.lost = s.lean.counters.lost
  seq : t.lean.tiltSeq = s.lean.tiltSeq
  sent : t.drives.tilt.sentCount = s.drives.tilt.sentCount

theorem CycleFlow.refl (s : State) : CycleFlow s s := ⟨.refl s, rfl, id, rfl⟩

theorem CycleFlow.trans {s t u : State} (h : CycleFlow s t) (k : CycleFlow t u) : CycleFlow s u := by
  refine ⟨h.toExchangeOnly.trans k.toExchangeOnly, ?_, k.bridge ∘ h.bridge, k.overrun.trans h.overrun⟩
  rw [k.lean, h.lean]

theorem CycleFlow.severity {s t : State} (h : CycleFlow s t) (k : FaultKind) :
    Machine.severity k t = Machine.severity k s := severity_of_params (by rw [h.agent]) k

theorem TiltKept.refl (s : State) : TiltKept s s := ⟨rfl, rfl, rfl, rfl⟩

theorem TiltKept.trans {s t u : State} (h : TiltKept s t) (k : TiltKept t u) : TiltKept s u :=
  ⟨k.originated.trans h.originated, k.lost.trans h.lost, k.seq.trans h.seq, k.sent.trans h.sent⟩

/-- The two together: what the parts after the tilt command leave. -/
def QuietFlow (s t : State) : Prop := CycleFlow s t ∧ TiltKept s t

theorem QuietFlow.refl (s : State) : QuietFlow s s := ⟨.refl s, .refl s⟩

theorem QuietFlow.trans {s t u : State} (h : QuietFlow s t) (k : QuietFlow t u) : QuietFlow s u :=
  ⟨h.1.trans k.1, h.2.trans k.2⟩

theorem KeepsBlocks.sentCount_tilt {s t : State} (h : KeepsBlocks s t) :
    t.drives.tilt.sentCount = s.drives.tilt.sentCount := by rw [h.tilt]

/-- A report of another kind leaves the record of a kind that is not reported along. -/
theorem report_record_other {j k : FaultKind} (hj : reportedAlong j = false) (hne : j ≠ k) (active : Bool) (s : State) :
    faultRecord j (report k active s) = faultRecord j s := by
  cases hk : reportedAlong k with
  | false => exact (report_record k active s hk).2 j hne hj
  | true =>
    unfold report take
    split
    · exact takeActive_keepsOthers wantStatus_keepsOthers hk s j hj
    · exact takeInactive_keepsOthers wantStatus_keepsOthers hk s j hj

theorem report_mode_ne_bridge (k : FaultKind) (active : Bool) {s : State} (h : s.lean.mode ≠ .bridge) :
    (report k active s).lean.mode ≠ .bridge := by
  rcases (report_reacts k active s).mode with hmode | ⟨-, hmode⟩
  · rwa [hmode]
  · simp [hmode]

theorem TrafficOnly.quietFlow {s t : State} (h : TrafficOnly s t) : QuietFlow s t := by
  have hlean := h.lean
  refine ⟨⟨h.exchange, by rw [hlean], by rw [hlean]; exact id, faultRecord_of_faults h.faults _⟩, ?_, ?_, ?_,
    h.sentCount_tilt⟩
  all_goals rw [hlean]

theorem report_quietFlow {k : FaultKind} (hk : .cycleOverrun ≠ k) (active : Bool) (s : State) :
    QuietFlow s (report k active s) := by
  have hreaction := report_reaction k active s
  have hlean := hreaction.lean
  refine ⟨⟨hreaction.exchange, ?_, fun hmode => report_mode_ne_bridge k active hmode,
    report_record_other rfl hk active s⟩, ?_, ?_, ?_, hreaction.sentCount_tilt⟩
  all_goals rw [hlean]

/-! ## The tilt command -/

/-- The TILT slot set, and a buffer's retainer, is no part of the lean law. -/
theorem setSlot_tilt_quietFlow {y : DriveSlot} {s t : State} (h : TrafficOnly s t)
    (hy : y.sentCount = s.drives.tilt.sentCount) : QuietFlow s (setSlot .tilt y t) := by
  have hexchange : ExchangeOnly s (setSlot .tilt y t) := h.exchange.trans (setSlot_exchange ..)
  have hlean : (setSlot .tilt y t).lean = s.lean := h.lean
  refine ⟨⟨hexchange, by rw [hlean], by rw [hlean]; exact id, faultRecord_of_faults (by exact h.faults) _⟩, ?_, ?_, ?_, hy⟩
  all_goals rw [hlean]

/-- A command handed to the TILT slot is counted there, and the lean law is as before but for the mode (R126). -/
theorem handOver_tilt_flow (b : Token) (q : Byte) (s : State) :
    QuietFlow (setSlot .tilt (oneSent (s.drives.get .tilt)) s) (handOver .tilt b q s) := by
  have hretainer (u : State) : TrafficOnly u (setRetainer b (some .tilt) u) := putBuffer_traffic b _ u
  cases hstate : (s.drives.get .tilt).state with
  | idle =>
    have heq (y : DriveSlot) : setSlot .tilt y (setRetainer b (some .tilt) s) =
        setSlot .tilt y (setRetainer b (some .tilt) (setSlot .tilt (oneSent (s.drives.get .tilt)) s)) := rfl
    rw [handOver_of_idle hstate, heq]
    exact setSlot_tilt_quietFlow (hretainer (setSlot .tilt (oneSent (s.drives.get .tilt)) s)) rfl
  | failed =>
    rw [handOver_of_failed hstate]
    exact .refl _
  | awaiting =>
    have hwithdrawn := onBuffer_traffic withdraw_traffic (s.drives.get .tilt).retained
      (setSlot .tilt (oneSent (s.drives.get .tilt)) s)
    by_cases hlimit : (s.drives.get .tilt).misses + 1 = missLimit s
    · rw [handOver_of_limit hstate hlimit]
      exact (setSlot_tilt_quietFlow (y := emptied (missed (withdrawn (oneSent (s.drives.get .tilt)))) .failed)
        hwithdrawn rfl).trans (report_quietFlow (k := .tiltDriveLost) (by simp) ..)
    · rw [handOver_of_below hstate hlimit]
      exact setSlot_tilt_quietFlow (hwithdrawn.trans (hretainer _)) rfl

/-- A tilt command sent: counted by the lean law and its slot, the sequence advanced (R104). -/
theorem launchTilt_flow (c : Cycle) (b : Token) (s : State) :
    CycleFlow s (launchTilt c b s)
      ∧ (launchTilt c b s).lean.counters.originated = bump s.lean.counters.originated
      ∧ (launchTilt c b s).lean.counters.lost = s.lean.counters.lost
      ∧ (launchTilt c b s).lean.tiltSeq = s.lean.tiltSeq + 1
      ∧ (launchTilt c b s).drives.tilt.sentCount = bump s.drives.tilt.sentCount := by
  have hbuilt : CycleFlow s
      (setSlot .tilt (oneSent (s.drives.get .tilt))
        { setBytes b (buildFrame 3 (tiltStream s) s.lean.tiltSeq (tiltPayload c)) s with
          lean := { s.lean with tiltSeq := s.lean.tiltSeq + 1 } }) :=
    ⟨⟨rfl, rfl, rfl, rfl, rfl, rfl, rfl, rfl⟩, rfl, id, rfl⟩
  obtain ⟨hflow, hkept⟩ := (handOver_tilt_flow b s.lean.tiltSeq
    { setBytes b (buildFrame 3 (tiltStream s) s.lean.tiltSeq (tiltPayload c)) s with
      lean := { s.lean with tiltSeq := s.lean.tiltSeq + 1 } }).trans (TrafficOnly.quietFlow (enqueue_traffic .chassis .priority b _))
  have hcounted (u : State) : CycleFlow u (setLeanCounters (fun k => { k with originated := bump k.originated }) u) :=
    ⟨⟨rfl, rfl, rfl, rfl, rfl, rfl, rfl, rfl⟩, rfl, id, rfl⟩
  exact ⟨(hbuilt.trans hflow).trans (hcounted _), congrArg bump hkept.originated, hkept.lost, hkept.seq, hkept.sent⟩

/-- R103: a tilt command is sent at the completion of a cycle with a row that started and ends in ACTIVE or RECOVER. -/
def SendsTilt (c : Cycle) (m : Mode) : Prop :=
  (c.startMode = .active ∨ c.startMode = .recover) ∧ (m = .active ∨ m = .recover) ∧ c.row ≠ none

theorem sendsTilt_iff (c : Cycle) (m : Mode) :
    (sendingMode c.startMode && sendingMode m && c.row.isSome) = true ↔ SendsTilt c m := by
  have hmode (n : Mode) : sendingMode n = true ↔ n = .active ∨ n = .recover := by cases n <;> simp [sendingMode]
  rw [Bool.and_eq_true, Bool.and_eq_true, hmode, hmode, SendsTilt, and_assoc, Option.isSome_iff_ne_none]

section tilt
variable {c : Cycle} {s : State}

theorem originateTilt_of_free {b : Token} (h : SendsTilt c s.lean.mode) (hfree : lowestFree s = some b) :
    originateTilt c s = launchTilt c b (report .poolExhausted false (holdForOrigin b s)) := by
  rw [originateTilt, if_pos ((sendsTilt_iff ..).2 h), claimOrigin_of_free hfree]

theorem originateTilt_of_none (h : SendsTilt c s.lean.mode) (hnone : lowestFree s = none) :
    originateTilt c s =
      setLeanCounters (fun k => { k with lost := bump k.lost }) (report .poolExhausted true s) := by
  rw [originateTilt, if_pos ((sendsTilt_iff ..).2 h), claimOrigin_of_none hnone]

theorem originateTilt_of_not_sends (h : ¬SendsTilt c s.lean.mode) : originateTilt c s = s := by
  rw [originateTilt, if_neg (mt (sendsTilt_iff ..).1 h)]

/-- A claim holds the buffer and reports, and sends nothing yet. -/
theorem claimed_quietFlow (b : Token) (s : State) :
    QuietFlow s (report .poolExhausted false (holdForOrigin b s)) :=
  (TrafficOnly.quietFlow (holdForOrigin_traffic b s)).trans (report_quietFlow (by simp) ..)

theorem refused_flow (s : State) :
    CycleFlow s (setLeanCounters (fun k => { k with lost := bump k.lost }) (report .poolExhausted true s)) :=
  (report_quietFlow (by simp) true s).1.trans ⟨⟨rfl, rfl, rfl, rfl, rfl, rfl, rfl, rfl⟩, rfl, id, rfl⟩

theorem originateTilt_flow (c : Cycle) (s : State) : CycleFlow s (originateTilt c s) := by
  by_cases h : SendsTilt c s.lean.mode
  · cases hfree : lowestFree s with
    | some b =>
      rw [originateTilt_of_free h hfree]
      exact (claimed_quietFlow b s).1.trans (launchTilt_flow ..).1
    | none =>
      rw [originateTilt_of_none h hfree]
      exact refused_flow s
  · rw [originateTilt_of_not_sends h]
    exact .refl s

end tilt

/-! ## Excursion and the lock's report -/

theorem judgeExcursion_flow (c : Cycle) (s : State) : QuietFlow s (judgeExcursion c s) := by
  have hrun (e : Byte) (n : Counter) : QuietFlow s
      { s with lean := { s.lean with excursionRun := e, counters := { s.lean.counters with excursionCycles := n } } } :=
    ⟨⟨⟨rfl, rfl, rfl, rfl, rfl, rfl, rfl, rfl⟩, rfl, id, rfl⟩, rfl, rfl, rfl, rfl⟩
  unfold judgeExcursion
  dsimp only
  split
  · split
    · split
      · exact (hrun ..).trans (report_quietFlow (by simp) ..)
      · exact hrun ..
    · exact (hrun 0 s.lean.counters.excursionCycles).trans (report_quietFlow (by simp) ..)
  · exact .refl s

theorem reportFresh_eq (speed lean : Int) (s : State) : ∃ l, reportFresh speed lean s = { s with lock := l } := by
  unfold reportFresh
  split
  · unfold reportEngaged
    split
    · split
      · exact ⟨_, rfl⟩
      · split <;> exact ⟨_, rfl⟩
    · exact ⟨_, rfl⟩
  · unfold reportFree
    split
    · split
      · exact ⟨_, rfl⟩
      · split <;> exact ⟨_, rfl⟩
    · exact ⟨_, rfl⟩
  · unfold reportSettling
    split
    · exact ⟨_, rfl⟩
    · split <;> exact ⟨_, rfl⟩
  all_goals exact ⟨_, rfl⟩

/-- The lock's report changes the lock, and the mode where the lean law hands back (R145, R155). -/
theorem completionReport_eq (speed lean : Int) (stale : Bool) (s : State) :
    ∃ m l, completionReport speed lean stale s = { s with lean := { s.lean with mode := m }, lock := l }
      ∧ (s.lean.mode ≠ .bridge → m ≠ .bridge) := by
  have hjudged : ∃ l, (if stale then reportStale s else reportFresh speed lean s) = { s with lock := l } := by
    split
    · exact ⟨_, rfl⟩
    · exact reportFresh_eq ..
  obtain ⟨l, hl⟩ := hjudged
  unfold completionReport
  dsimp only
  rw [hl]
  split
  · unfold handBack
    split
    · exact ⟨_, _, rfl, fun _ => by simp⟩
    all_goals exact ⟨s.lean.mode, l, rfl, id⟩
  all_goals exact ⟨s.lean.mode, l, rfl, id⟩

theorem completionReport_flow (speed lean : Int) (stale : Bool) (s : State) :
    QuietFlow s (completionReport speed lean stale s) := by
  obtain ⟨m, l, heq, hbridge⟩ := completionReport_eq speed lean stale s
  rw [heq]
  exact ⟨⟨⟨rfl, rfl, rfl, rfl, rfl, rfl, rfl, rfl⟩, rfl, hbridge, rfl⟩, rfl, rfl, rfl, rfl⟩

/-! ## Frames meanwhile -/

section frames
variable {p : Port} {b : Token} {bytes : List Byte} {stamp : Nat} {s : State}

/-- What the excursion and the lock's report do to a posted or loose frame is what reports do. -/
theorem judgeExcursion_posted (c : Cycle) (h : Posted p b bytes stamp s) : Posted p b bytes stamp (judgeExcursion c s) := by
  unfold judgeExcursion
  dsimp only
  split
  · split
    · split
      · exact (report_reacts ..).posted (h.of_same rfl rfl rfl)
      · exact h.of_same rfl rfl rfl
    · exact (report_reacts ..).posted (h.of_same rfl rfl rfl)
  · exact h

theorem judgeExcursion_loose (c : Cycle) (h : Loose p b bytes stamp s) : Loose p b bytes stamp (judgeExcursion c s) := by
  unfold judgeExcursion
  dsimp only
  split
  · split
    · split
      · exact (report_reacts ..).loose (h.of_same rfl rfl rfl)
      · exact h.of_same rfl rfl rfl
    · exact (report_reacts ..).loose (h.of_same rfl rfl rfl)
  · exact h

theorem completionReport_posted (speed lean : Int) (stale : Bool) (h : Posted p b bytes stamp s) :
    Posted p b bytes stamp (completionReport speed lean stale s) := by
  obtain ⟨m, l, heq, -⟩ := completionReport_eq speed lean stale s
  rw [heq]
  exact h.of_same rfl rfl rfl

theorem completionReport_loose (speed lean : Int) (stale : Bool) (h : Loose p b bytes stamp s) :
    Loose p b bytes stamp (completionReport speed lean stale s) := by
  obtain ⟨m, l, heq, -⟩ := completionReport_eq speed lean stale s
  rw [heq]
  exact h.of_same rfl rfl rfl

theorem setBytes_loose (h : Loose p b bytes stamp s) (bs : List Byte) : Loose p b bs stamp (setBytes b bs s) := by
  have hbuffer : buffer b (setBytes b bs s) = { buffer b s with bytes := bs } := (buffer_setBytes ..).trans (if_pos rfl)
  exact ⟨by rw [hbuffer]; exact h.state, by rw [hbuffer], by rw [hbuffer]; exact h.arrival, h.outOf, h.hand⟩

theorem setBytes_loose_other {c : Token} (hne : c ≠ b) (h : Loose p b bytes stamp s) (bs : List Byte) :
    Loose p b bytes stamp (setBytes c bs s) := h.of_same ((buffer_setBytes ..).trans (if_neg hne)) rfl rfl

/-- A claimed buffer is loose once the claim is told. -/
theorem claimed_loose (hqueued : b ∉ queuedTokens s) (hp : p ≠ .cockpit) :
    Loose p b [] s.now (report .poolExhausted false (holdForOrigin b s)) := by
  have hheld : buffer b (holdForOrigin b s) = heldBuffer s := (buffer_holdForOrigin b b s).trans (if_pos rfl)
  have hloose : Loose p b [] s.now (holdForOrigin b s) :=
    ⟨by rw [hheld]; rfl, by rw [hheld]; rfl, by rw [hheld]; rfl, outOf_of_not_queued hqueued, fun h => absurd h hp⟩
  exact (report_reacts ..).loose hloose

/-- The tilt command waits on chassis PRIORITY or is in transmission there (R104). -/
theorem launchTilt_posted (c : Cycle) (h : Loose .chassis b bytes stamp s) :
    Posted .chassis b (buildFrame 3 (tiltStream s) s.lean.tiltSeq (tiltPayload c)) stamp (launchTilt c b s) :=
  have hbuilt := setBytes_loose h (buildFrame 3 (tiltStream s) s.lean.tiltSeq (tiltPayload c))
  have hadvanced := hbuilt.of_same (t := { setBytes b (buildFrame 3 (tiltStream s) s.lean.tiltSeq (tiltPayload c)) s with
      lean := { s.lean with tiltSeq := s.lean.tiltSeq + 1 } }) rfl rfl rfl
  (enqueue_posted (handOver_loose hadvanced ..)).of_same rfl rfl rfl

/-- A tilt command passes a frame by that is built in another HELD buffer. -/
theorem launchTilt_loose (c : Cycle) {e : Token} (hne : e ≠ b) (h : Loose p b bytes stamp s) :
    Loose p b bytes stamp (launchTilt c e s) :=
  have hbuilt := setBytes_loose_other hne h (buildFrame 3 (tiltStream s) s.lean.tiltSeq (tiltPayload c))
  have hadvanced := hbuilt.of_same (t := { setBytes e (buildFrame 3 (tiltStream s) s.lean.tiltSeq (tiltPayload c)) s with
      lean := { s.lean with tiltSeq := s.lean.tiltSeq + 1 } }) rfl rfl rfl
  ((handOver_loose hadvanced ..).enqueue_other hne ..).of_same rfl rfl rfl

theorem originateTilt_loose (c : Cycle) (h : Loose p b bytes stamp s) : Loose p b bytes stamp (originateTilt c s) := by
  by_cases hsends : SendsTilt c s.lean.mode
  · cases hfree : lowestFree s with
    | some e =>
      have hne : e ≠ b := by
        rintro rfl
        have hstate := (lowestFree_spec hfree).1
        rw [h.state] at hstate
        cases hstate
      have hheld : Loose p b bytes stamp (holdForOrigin e s) :=
        h.of_same ((buffer_holdForOrigin e b s).trans (if_neg hne)) rfl rfl
      rw [originateTilt_of_free hsends hfree]
      exact launchTilt_loose c hne ((report_reacts ..).loose hheld)
    | none =>
      rw [originateTilt_of_none hsends hfree]
      exact ((report_reacts ..).loose h).of_same rfl rfl rfl
  · rw [originateTilt_of_not_sends hsends]
    exact h

end frames

end Sys2Proof.Machine
end

section
/-!
PROOF. The completion of a cycle, and the ENVELOPE commit that waits for it (R102 to R108, R107, R191).
-/
namespace Sys2Proof.Machine

/-! ## Where the ledger says a buffer is -/

section ledger
variable {b : Token} {s : State}

theorem PoolAccounted.held_of_mem (h : PoolAccounted s) (hb : b ∈ heldTokens s) : (buffer b s).state = .held := by
  obtain ⟨-, hcount, -, -⟩ := h b
  refine Classical.byContradiction fun hno => ?_
  rw [if_neg hno] at hcount
  exact List.count_eq_zero.1 hcount hb

theorem PoolAccounted.notMem_queued (h : PoolAccounted s) (hb : (buffer b s).state ≠ .queued) : b ∉ queuedTokens s := by
  obtain ⟨-, -, hcount, -⟩ := h b
  rw [if_neg hb] at hcount
  exact List.count_eq_zero.1 hcount

theorem PoolAccounted.notMem_sending (h : PoolAccounted s) (hb : (buffer b s).state ≠ .sending) :
    b ∉ sendingTokens s := by
  obtain ⟨-, -, -, hcount⟩ := h b
  rw [if_neg hb] at hcount
  exact List.count_eq_zero.1 hcount

theorem PoolAccounted.commit_held (h : PoolAccounted s) {pc : CommitPending} (hpc : s.agent.pendingCommit = some pc) :
    (buffer pc.reply s).state = .held :=
  h.held_of_mem (by simp [heldTokens, hpc])

/-- The reply buffer of a pending commit may be queued at any port. -/
theorem commit_loose (h : PoolAccounted s) (htraced : StatusFrameTraced s) {pc : CommitPending}
    (hpc : s.agent.pendingCommit = some pc) :
    Loose pc.port pc.reply (buffer pc.reply s).bytes (buffer pc.reply s).arrival s := by
  have hheld := h.commit_held hpc
  have hqueued : pc.reply ∉ queuedTokens s := h.notMem_queued (by simp [hheld])
  have hsending : pc.reply ∉ sendingTokens s := h.notMem_sending (by simp [hheld])
  refine ⟨hheld, rfl, rfl, outOf_of_not_queued hqueued, fun _ hhand => ?_⟩
  obtain ⟨hprio | hsend, -⟩ := htraced _ hhand
  · exact hqueued (by simp [queuedTokens, hprio])
  · exact hsending (by simp [sendingTokens, hsend])

end ledger

/-! ## The pending commit -/

/-- The state with the staged rows in force and the deferred commit counted, before its reply (R107, R191). -/
def committed (es : List (Fin 12 × EnvelopeRow)) (s : State) : State :=
  { applyEnvelope es s with
    lean :=
      { (applyEnvelope es s).lean with
        counters := { (applyEnvelope es s).lean.counters with deferred := bump (applyEnvelope es s).lean.counters.deferred } }
    agent := { (applyEnvelope es s).agent with pendingCommit := none } }

/-- The DONE reply of a deferred commit queued (R107). -/
def commitReplied (pc : CommitPending) (es : List (Fin 12 × EnvelopeRow)) (s : State) : State :=
  countReply .done
    (enqueue pc.port .priority pc.reply
      (setBytes pc.reply (replyFrame s.node pc.seq pc.tag 5 .done []) (committed es s)))

theorem applyPendingCommit_of_none {s : State} (h : s.agent.pendingCommit = none) : applyPendingCommit s = s := by
  simp only [applyPendingCommit, h]

theorem applyPendingCommit_of_some {s : State} {pc : CommitPending} (h : s.agent.pendingCommit = some pc) :
    ∃ es, applyPendingCommit s = commitReplied pc es s ∧ ∀ es', s.agent.stage = .envelope es' → es = es' := by
  unfold applyPendingCommit
  rw [h]
  refine ⟨_, rfl, fun es' hstage => ?_⟩
  simp only [hstage]

/-- Row, deferred counter, envelope, shaper and agent are all that the pending commit may change outside the traffic. -/
structure CommitFlow (s t : State) : Prop where
  lean :
    t.lean =
      { s.lean with
        row := t.lean.row, counters := { s.lean.counters with deferred := t.lean.counters.deferred } }
  resets : t.resets = s.resets
  node : t.node = s.node
  rx : t.rx = s.rx
  classifier : t.classifier = s.classifier
  channels : t.channels = s.channels
  params : t.agent.params = s.agent.params
  faults : t.monitor.faults = s.monitor.faults
  sent : t.drives.tilt.sentCount = s.drives.tilt.sentCount

theorem commitReplied_flow (pc : CommitPending) (es : List (Fin 12 × EnvelopeRow)) (s : State) :
    CommitFlow s (commitReplied pc es s) ∧ (commitReplied pc es s).agent.pendingCommit = none
      ∧ (commitReplied pc es s).envelope = { rows := overlay s.envelope.rows es, valid := true }
      ∧ (commitReplied pc es s).shaper.last = none
      ∧ (commitReplied pc es s).lean.row = none
      ∧ (commitReplied pc es s).lean.counters.deferred = bump s.lean.counters.deferred
      ∧ (commitReplied pc es s).agent =
          { s.agent with
            stage := .empty, pendingCommit := none
            counters :=
              { s.agent.counters with
                commitsApplied := bump s.agent.counters.commitsApplied
                repliesDone := bump s.agent.counters.repliesDone } } := by
  have htraffic := (setBytes_traffic pc.reply (replyFrame s.node pc.seq pc.tag 5 .done []) (committed es s)).trans
    (enqueue_traffic pc.port .priority pc.reply _)
  unfold commitReplied
  generalize enqueue pc.port .priority pc.reply _ = u at htraffic
  have hlean : u.lean = (committed es s).lean := htraffic.lean
  have hagent : u.agent = (committed es s).agent := htraffic.agent
  have hcounted : (countReply .done u).agent =
      { s.agent with
        stage := .empty, pendingCommit := none
        counters :=
          { s.agent.counters with
            commitsApplied := bump s.agent.counters.commitsApplied
            repliesDone := bump s.agent.counters.repliesDone } } := by
    simp only [countReply, setAgentCounters, hagent]
    rfl
  refine ⟨⟨?_, htraffic.resets, htraffic.node, htraffic.rx, htraffic.classifier, htraffic.channels, ?_, ?_, ?_⟩, ?_,
    htraffic.envelope, ?_, ?_, ?_, hcounted⟩
  · have hcounted' : (countReply .done u).lean = u.lean := rfl
    rw [hcounted', hlean]
    rfl
  · rw [hcounted]
  · exact htraffic.faults
  · exact htraffic.sentCount_tilt
  · rw [hcounted]
  · exact congrArg Shaper.last htraffic.shaper
  · exact congrArg LeanLaw.row hlean
  · exact congrArg (fun x => x.counters.deferred) hlean

theorem applyPendingCommit_flow (s : State) :
    CommitFlow s (applyPendingCommit s) ∧ (applyPendingCommit s).agent.pendingCommit = none := by
  cases h : s.agent.pendingCommit with
  | none =>
    rw [applyPendingCommit_of_none h]
    exact ⟨⟨rfl, rfl, rfl, rfl, rfl, rfl, rfl, rfl, rfl⟩, h⟩
  | some pc =>
    obtain ⟨es, heq, -⟩ := applyPendingCommit_of_some h
    obtain ⟨hflow, hnone, -⟩ := commitReplied_flow pc es s
    rw [heq]
    exact ⟨hflow, hnone⟩

section frames
variable {p : Port} {b : Token} {bytes : List Byte} {stamp : Nat} {s : State}

/-- The DONE reply waits on PRIORITY of the recorded port or is in transmission there (R107). -/
theorem commitReplied_posted {pc : CommitPending} (h : Loose pc.port pc.reply bytes stamp s)
    (es : List (Fin 12 × EnvelopeRow)) :
    Posted pc.port pc.reply (replyFrame s.node pc.seq pc.tag 5 .done []) stamp (commitReplied pc es s) :=
  have hcommitted : Loose pc.port pc.reply bytes stamp (committed es s) := h.of_same rfl rfl rfl
  (enqueue_posted (setBytes_loose hcommitted (replyFrame s.node pc.seq pc.tag 5 .done []))).of_same rfl rfl rfl

/-- Another frame is posted still after the commit's reply. -/
theorem applyPendingCommit_posted (h : Posted p b bytes stamp s)
    (hne : ∀ pc, s.agent.pendingCommit = some pc → pc.reply ≠ b) : Posted p b bytes stamp (applyPendingCommit s) := by
  cases hpc : s.agent.pendingCommit with
  | none =>
    rw [applyPendingCommit_of_none hpc]
    exact h
  | some pc =>
    obtain ⟨es, heq, -⟩ := applyPendingCommit_of_some hpc
    have hbuilt : Posted p b bytes stamp
        (setBytes pc.reply (replyFrame s.node pc.seq pc.tag 5 .done []) (committed es s)) :=
      h.of_same ((buffer_setBytes ..).trans (if_neg (hne pc hpc))) rfl rfl
    rw [heq]
    exact (hbuilt.enqueue_other (hne pc hpc) pc.port).of_same rfl rfl rfl

/-! ## The pending anchor -/

theorem pendingAnchorStart_of_none (h : s.lean.pendingAnchor = false) :
    pendingAnchorStart s = report .cycleOverrun false s := by
  rw [pendingAnchorStart, h, if_neg Bool.false_ne_true]

theorem pendingAnchorStart_of_pending (h : s.lean.pendingAnchor = true) :
    pendingAnchorStart s = startCycle .pending { s with lean := { s.lean with pendingAnchor := false } } := by
  rw [pendingAnchorStart, h, if_pos rfl]

/-- The start of a cycle is a matter of the lean law. -/
theorem startCycle_lean (cause : Cause) (s : State) : ∃ r y n, ∃ k : LeanCounters, startCycle cause s =
    { s with lean := { s.lean with
        row := r, cycle := y, timer := n
        counters :=
          { s.lean.counters with
            anchorCycles := k.anchorCycles, pendingCycles := k.pendingCycles, blindCycles := k.blindCycles
            withoutRow := k.withoutRow } } } := by
  by_cases hmode : s.lean.mode = .bridge
  · refine ⟨s.lean.row, s.lean.cycle, s.lean.timer, s.lean.counters, ?_⟩
    unfold startCycle
    split
    next => rfl
    all_goals next h => cases hmode.symm.trans h
  · rw [startCycle_eq cause hmode, countStart_eq]
    exact ⟨_, _, _, countStart cause _ s.lean.counters, by rw [countStart_eq]⟩

/-- The start of the pending cycle, or the report in its place, sends nothing and applies nothing (R94). -/
theorem pendingAnchorStart_leaves (s : State) :
    ExchangeOnly s (pendingAnchorStart s) ∧ TiltKept s (pendingAnchorStart s)
      ∧ (pendingAnchorStart s).lean.counters.deferred = s.lean.counters.deferred := by
  cases h : s.lean.pendingAnchor with
  | false =>
    have hreaction := report_reaction .cycleOverrun false s
    have hlean := hreaction.lean
    rw [pendingAnchorStart_of_none h]
    refine ⟨hreaction.exchange, ⟨?_, ?_, ?_, hreaction.sentCount_tilt⟩, ?_⟩
    all_goals rw [hlean]
  | true =>
    obtain ⟨r, y, n, k, heq⟩ := startCycle_lean .pending { s with lean := { s.lean with pendingAnchor := false } }
    rw [pendingAnchorStart_of_pending h, heq]
    exact ⟨⟨rfl, rfl, rfl, rfl, rfl, rfl, rfl, rfl⟩, ⟨rfl, rfl, rfl, rfl⟩, rfl⟩

theorem pendingAnchorStart_posted (h : Posted p b bytes stamp s) : Posted p b bytes stamp (pendingAnchorStart s) := by
  cases hpending : s.lean.pendingAnchor with
  | false =>
    rw [pendingAnchorStart_of_none hpending]
    exact (report_reacts ..).posted h
  | true =>
    obtain ⟨r, y, n, k, heq⟩ := startCycle_lean .pending { s with lean := { s.lean with pendingAnchor := false } }
    rw [pendingAnchorStart_of_pending hpending, heq]
    exact h.of_same rfl rfl rfl

end frames

/-! ## The completion -/

/-- The completion up to the lock's report: results, tilt command, excursion, lock (R102). -/
def lockTold (c : Cycle) (s : State) : State :=
  completionReport c.speed c.theta c.speedStale (judgeExcursion c (originateTilt c (recordResults c s)))

theorem cycleCompletion_eq {c : Cycle} {s : State} (h : s.lean.cycle = some c) :
    cycleCompletion s = pendingAnchorStart (applyPendingCommit (lockTold c s)) := by
  simp only [cycleCompletion, h]
  rfl

/-- What follows the tilt command up to the lock's report sends nothing. -/
theorem told_quietFlow (c : Cycle) (s : State) :
    QuietFlow s (completionReport c.speed c.theta c.speedStale (judgeExcursion c s)) :=
  (judgeExcursion_flow c s).trans (completionReport_flow ..)

theorem lockTold_flow (c : Cycle) (s : State) : CycleFlow (recordResults c s) (lockTold c s) :=
  (originateTilt_flow c _).trans (told_quietFlow c _).1

theorem lockTold_loose {p : Port} {b : Token} {bytes : List Byte} {stamp : Nat} (c : Cycle) {s : State}
    (h : Loose p b bytes stamp s) : Loose p b bytes stamp (lockTold c s) :=
  have hrecorded : Loose p b bytes stamp (recordResults c s) := h.of_same rfl rfl rfl
  completionReport_loose _ _ _ (judgeExcursion_loose c (originateTilt_loose c hrecorded))

/-- The tilt command of a completion is posted at its end (R104). -/
theorem cycleCompletion_posted (c : Cycle) {b : Token} {s : State} (hsends : SendsTilt c s.lean.mode)
    (hpool : PoolAccounted s) (hfree : lowestFree s = some b) :
    Posted .chassis b (buildFrame 3 (tiltStream s) s.lean.tiltSeq (tiltPayload c)) s.now
      (pendingAnchorStart (applyPendingCommit (lockTold c s))) := by
  have hfree' : lowestFree (recordResults c s) = some b := hfree
  have hqueued : b ∉ queuedTokens (recordResults c s) :=
    hpool.notMem_queued (by rw [(lowestFree_spec hfree).1]; simp)
  have hclaimed := claimed_loose (p := .chassis) hqueued (by simp)
  obtain ⟨hflow, hkept⟩ := claimed_quietFlow b (recordResults c s)
  have hlaunched := launchTilt_posted c hclaimed
  rw [← originateTilt_of_free (c := c) (s := recordResults c s) hsends hfree'] at hlaunched
  have hstream : tiltStream (report .poolExhausted false (holdForOrigin b (recordResults c s))) = tiltStream s := by
    have hagent : (report .poolExhausted false (holdForOrigin b (recordResults c s))).agent = s.agent := hflow.agent
    simp only [tiltStream, param, hagent]
  have hseq : (report .poolExhausted false (holdForOrigin b (recordResults c s))).lean.tiltSeq = s.lean.tiltSeq :=
    hkept.seq
  rw [hstream, hseq] at hlaunched
  refine pendingAnchorStart_posted (applyPendingCommit_posted
    (completionReport_posted _ _ _ (judgeExcursion_posted c hlaunched)) fun pc hpc heq => ?_)
  have hagent : (lockTold c s).agent = s.agent := (lockTold_flow c s).agent
  have hpc' : s.agent.pendingCommit = some pc := hagent ▸ hpc
  have hheld := hpool.commit_held hpc'
  rw [heq, (lowestFree_spec hfree).1] at hheld
  cases hheld

/-- What the pending anchor finds at the end of a completion (R102). -/
structure BeforeAnchor (c : Cycle) (s u : State) : Prop where
  lean :
    u.lean =
      { s.lean with
        target := c.target, command := c.command, reported := c.theta, cycle := none
        mode := u.lean.mode, row := u.lean.row, tiltSeq := u.lean.tiltSeq, excursionRun := u.lean.excursionRun
        counters :=
          { s.lean.counters with
            originated := u.lean.counters.originated, lost := u.lean.counters.lost
            excursionCycles := u.lean.counters.excursionCycles, deferred := u.lean.counters.deferred } }
  bridge : s.lean.mode ≠ .bridge → u.lean.mode ≠ .bridge
  overrun : faultRecord .cycleOverrun u = faultRecord .cycleOverrun s
  pendingCommit : u.agent.pendingCommit = none
  params : u.agent.params = s.agent.params
  classifier : u.classifier = s.classifier
  channels : u.channels = s.channels
  rx : u.rx = s.rx
  node : u.node = s.node
  resets : u.resets = s.resets

theorem lockTold_beforeAnchor (c : Cycle) (s : State) : BeforeAnchor c s (applyPendingCommit (lockTold c s)) := by
  have hflow := lockTold_flow c s
  obtain ⟨hcommit, hnone⟩ := applyPendingCommit_flow (lockTold c s)
  exact
    { lean := by
        rw [hcommit.lean, hflow.lean]
        rfl
      bridge := fun h => by
        rw [hcommit.lean]
        exact hflow.bridge h
      overrun := (faultRecord_of_faults hcommit.faults _).trans hflow.overrun
      pendingCommit := hnone
      params := hcommit.params.trans (congrArg Agent.params hflow.agent)
      classifier := hcommit.classifier.trans hflow.classifier
      channels := hcommit.channels.trans hflow.channels
      rx := hcommit.rx.trans hflow.rx
      node := hcommit.node.trans hflow.node
      resets := hcommit.resets.trans hflow.resets }

section anchor
variable {c : Cycle} {s u : State}

theorem BeforeAnchor.pendingAnchor (h : BeforeAnchor c s u) : u.lean.pendingAnchor = s.lean.pendingAnchor := by
  rw [h.lean]

theorem BeforeAnchor.pendingCycles (h : BeforeAnchor c s u) :
    u.lean.counters.pendingCycles = s.lean.counters.pendingCycles := by
  rw [h.lean]

theorem BeforeAnchor.results (h : BeforeAnchor c s u) :
    u.lean.target = c.target ∧ u.lean.command = c.command ∧ u.lean.reported = c.theta ∧ u.lean.cycle = none := by
  rw [h.lean]
  exact ⟨rfl, rfl, rfl, rfl⟩

/-- CYCLE_OVERRUN is reported inactive exactly when no anchor is pending (R94). -/
theorem BeforeAnchor.overrun_after (h : BeforeAnchor c s u) :
    faultRecord .cycleOverrun (pendingAnchorStart u) =
      if s.lean.pendingAnchor then faultRecord .cycleOverrun s
      else takenRecord (severity .cycleOverrun s) false (faultRecord .cycleOverrun s) := by
  cases hanchor : s.lean.pendingAnchor with
  | false =>
    rw [pendingAnchorStart_of_none (h.pendingAnchor.trans hanchor), (report_record .cycleOverrun false u rfl).1,
      h.overrun, severity_of_params h.params]
    rfl
  | true =>
    obtain ⟨r, y, n, k, heq⟩ := startCycle_lean .pending { u with lean := { u.lean with pendingAnchor := false } }
    rw [pendingAnchorStart_of_pending (h.pendingAnchor.trans hanchor), heq]
    exact h.overrun

theorem BeforeAnchor.pendingCycles_after (h : BeforeAnchor c s u) (hnone : s.lean.pendingAnchor = false) :
    (pendingAnchorStart u).lean.counters.pendingCycles = s.lean.counters.pendingCycles := by
  rw [pendingAnchorStart_of_none (h.pendingAnchor.trans hnone), (report_reaction ..).lean]
  exact h.pendingCycles

/-- The agent and the blocks that a completion does not reach. -/
theorem BeforeAnchor.blocks_after (h : BeforeAnchor c s u) :
    (pendingAnchorStart u).agent.pendingCommit = none ∧ (pendingAnchorStart u).agent.params = s.agent.params
      ∧ (pendingAnchorStart u).classifier = s.classifier ∧ (pendingAnchorStart u).channels = s.channels
      ∧ (pendingAnchorStart u).rx = s.rx ∧ (pendingAnchorStart u).node = s.node
      ∧ (pendingAnchorStart u).resets = s.resets := by
  obtain ⟨hexchange, -, -⟩ := pendingAnchorStart_leaves u
  have hagent : (pendingAnchorStart u).agent = u.agent := hexchange.agent
  exact ⟨by rw [hagent, h.pendingCommit], by rw [hagent, h.params], hexchange.classifier.trans h.classifier,
    hexchange.channels.trans h.channels, hexchange.rx.trans h.rx, hexchange.node.trans h.node,
    hexchange.resets.trans h.resets⟩

/-- Results and the cycle started, if any, outside BRIDGE (R94, R96, R102). -/
theorem BeforeAnchor.lean_after (h : BeforeAnchor c s u) (hbridge : s.lean.mode ≠ .bridge) :
    let t := pendingAnchorStart u
    t.lean.target = c.target ∧ t.lean.command = c.command ∧ t.lean.reported = c.theta ∧ t.lean.pendingAnchor = false
      ∧ (s.lean.pendingAnchor = false → t.lean.cycle = none)
      ∧ (s.lean.pendingAnchor = true →
          (∃ n, t.lean.cycle = some n ∧ n.cause = .pending)
            ∧ t.lean.counters.pendingCycles = bump s.lean.counters.pendingCycles) := by
  obtain ⟨htarget, hcommand, hreported, hidle⟩ := h.results
  dsimp only
  cases hanchor : s.lean.pendingAnchor with
  | false =>
    rw [pendingAnchorStart_of_none (h.pendingAnchor.trans hanchor), (report_reaction ..).lean]
    exact ⟨htarget, hcommand, hreported, h.pendingAnchor.trans hanchor, fun _ => hidle, fun h => absurd h (by simp)⟩
  | true =>
    rw [pendingAnchorStart_of_pending (h.pendingAnchor.trans hanchor),
      startCycle_eq .pending (s := { u with lean := { u.lean with pendingAnchor := false } }) (h.bridge hbridge),
      countStart_eq]
    refine ⟨htarget, hcommand, hreported, rfl, fun h => absurd h (by simp), fun _ => ⟨⟨_, rfl, rfl⟩, ?_⟩⟩
    rw [← h.pendingCycles]
    rfl

end anchor

theorem CommitFlow.tiltKept {s t : State} (h : CommitFlow s t) : TiltKept s t := by
  refine ⟨?_, ?_, ?_, h.sent⟩
  all_goals rw [h.lean]

/-- After the tilt command, the rest of a completion sends none and loses none. -/
theorem completion_tiltKept (c : Cycle) (s : State) :
    TiltKept (originateTilt c (recordResults c s)) (pendingAnchorStart (applyPendingCommit (lockTold c s))) :=
  ((told_quietFlow c _).2.trans (applyPendingCommit_flow _).1.tiltKept).trans (pendingAnchorStart_leaves _).2.1

theorem completion_sent {c : Cycle} {s : State} (hsends : SendsTilt c s.lean.mode) (hfree : lowestFree s ≠ none) :
    let t := pendingAnchorStart (applyPendingCommit (lockTold c s))
    t.lean.counters.originated = bump s.lean.counters.originated ∧ t.lean.counters.lost = s.lean.counters.lost
      ∧ t.lean.tiltSeq = s.lean.tiltSeq + 1 ∧ t.drives.tilt.sentCount = bump s.drives.tilt.sentCount := by
  obtain ⟨b, hb⟩ := Option.ne_none_iff_exists'.1 hfree
  have hkept := completion_tiltKept c s
  obtain ⟨-, hclaimed⟩ := claimed_quietFlow b (recordResults c s)
  obtain ⟨-, horiginated, hlost, hseq, hsent⟩ :=
    launchTilt_flow c b (report .poolExhausted false (holdForOrigin b (recordResults c s)))
  rw [originateTilt_of_free (s := recordResults c s) hsends hb] at hkept
  dsimp only
  rw [hkept.originated, hkept.lost, hkept.seq, hkept.sent, horiginated, hlost, hseq, hsent, hclaimed.originated,
    hclaimed.lost, hclaimed.seq, hclaimed.sent]
  exact ⟨rfl, rfl, rfl, rfl⟩

theorem completion_lost {c : Cycle} {s : State} (hsends : SendsTilt c s.lean.mode) (hnone : lowestFree s = none) :
    let t := pendingAnchorStart (applyPendingCommit (lockTold c s))
    t.lean.counters.lost = bump s.lean.counters.lost ∧ t.lean.counters.originated = s.lean.counters.originated
      ∧ t.lean.tiltSeq = s.lean.tiltSeq ∧ t.drives.tilt.sentCount = s.drives.tilt.sentCount := by
  have hkept := completion_tiltKept c s
  have hrefused := (report_quietFlow (k := .poolExhausted) (by simp) true (recordResults c s)).2
  rw [originateTilt_of_none (s := recordResults c s) hsends hnone] at hkept
  exact ⟨hkept.lost.trans (congrArg bump hrefused.lost), hkept.originated.trans hrefused.originated,
    hkept.seq.trans hrefused.seq, hkept.sent.trans hrefused.sent⟩

theorem completion_silent {c : Cycle} {s : State} (hsends : ¬SendsTilt c s.lean.mode) :
    let t := pendingAnchorStart (applyPendingCommit (lockTold c s))
    t.lean.counters.originated = s.lean.counters.originated ∧ t.lean.counters.lost = s.lean.counters.lost
      ∧ t.lean.tiltSeq = s.lean.tiltSeq ∧ t.drives.tilt.sentCount = s.drives.tilt.sentCount := by
  have hkept := completion_tiltKept c s
  rw [originateTilt_of_not_sends (s := recordResults c s) hsends] at hkept
  exact ⟨hkept.originated, hkept.lost, hkept.seq, hkept.sent⟩

/-- Settles O24: the parts of the completion in their order. -/
theorem completionRecordsTheResultsAndSends : Obligations.CompletionRecordsTheResultsAndSends := by
  intro c s hreset hcycle sends
  have hexec : exec .cycleCompletion s = .next (pendingAnchorStart (applyPendingCommit (lockTold c s))) := by
    rw [← cycleCompletion_eq hcycle]
    exact unlessReset_of_not_inReset _ hreset
  have hbefore := lockTold_beforeAnchor c s
  refine ⟨_, hexec, rfl, hbefore.overrun_after, hbefore.pendingCycles_after, fun hbridge => ?_, completion_sent,
    completion_lost, completion_silent, fun hsends hpool b hfree => ?_⟩
  · obtain ⟨htarget, hcommand, hreported, hanchor, hidle, hstarted⟩ := hbefore.lean_after hbridge
    exact ⟨htarget, hcommand, hreported, hanchor, hidle, hstarted, hbefore.blocks_after⟩
  · have hframe := cycleCompletion_posted c hsends hpool hfree
    exact ⟨hframe.bytes, hframe.arrival, hframe.place⟩

/-! ## A commit held or applied at once -/

/-- Requests begun count only those that are dropped (R182). -/
theorem beginFrom_counters (rs : List Request) (s : State) :
    (beginFrom rs s).agent.counters = { s.agent.counters with dropped := (beginFrom rs s).agent.counters.dropped } := by
  induction rs generalizing s with
  | nil => rfl
  | cons r rest ih =>
    have hagent := claimOrigin_agent { s with agent := { s.agent with requests := rest } }
    unfold beginFrom
    generalize claimOrigin { s with agent := { s.agent with requests := rest } } = claim at hagent
    obtain ⟨_ | b, u⟩ := claim
    · dsimp only at hagent ⊢
      rw [ih, dropRequest_agent, hagent]
    · dsimp only at hagent ⊢
      rw [hagent]

theorem nextRequest_counters (s : State) :
    (nextRequest s).agent.counters = { s.agent.counters with dropped := (nextRequest s).agent.counters.dropped } := by
  rw [nextRequest_eq_beginFrom]
  exact beginFrom_counters ..

theorem answer_commitsApplied (r : Result) (data : List Byte) (s : State) :
    (answer r data s).agent.counters.commitsApplied = s.agent.counters.commitsApplied := by
  cases hin : s.agent.inHand with
  | none => simp only [answer, hin]
  | some rq =>
    have hagent : (enqueue rq.port .priority rq.reply (replied rq r data s)).agent = s.agent :=
      ((replied_traffic rq r data s).trans (enqueue_traffic ..)).agent
    have hcounted (u : State) : (countReply r u).agent.counters.commitsApplied = u.agent.counters.commitsApplied := by
      simp only [countReply, setAgentCounters]
      split <;> rfl
    have hanswer : answer r data s = nextRequest (queueReply rq r data s) := by simp only [answer, hin]
    rw [hanswer, nextRequest_counters, queueReply_eq]
    exact (hcounted _).trans (by rw [hagent])

/-- Settles O50: at once in the agent; at the completion through the parts of the completion. -/
theorem envelopeCommitIsAppliedOrHeld : Obligations.EnvelopeCommitIsAppliedOrHeld := by
  refine ⟨fun rq es s hin hstage hpc => ?_, fun c pc es s hreset hcycle hpc hstage => ?_⟩
  · intro t record released
    refine ⟨fun hidle => ?_, fun hcycle => ?_⟩
    · have ht : t = answer .done [] (applyEnvelope es s) := if_pos hidle
      have hrequest := answer_request .done [] (applyEnvelope es s)
      have hcommits := answer_commitsApplied .done [] (applyEnvelope es s)
      rw [← ht] at hrequest hcommits
      exact ⟨ht, hcommits, hrequest.envelope, congrArg LeanLaw.row hrequest.lean, congrArg Shaper.last hrequest.shaper,
        congrArg Agent.stage hrequest.agent, (congrArg Agent.pendingCommit hrequest.agent).trans hpc⟩
    · have hheld : t = holdCommit s := if_neg hcycle
      have ht : t = nextRequest { released with agent := { released.agent with pendingCommit := some record } } := by
        rw [hheld]
        simp only [holdCommit, hin]
        rfl
      have htraffic := releaseBuffer_traffic rq.request s
      have hrequest := nextRequest_request { released with agent := { released.agent with pendingCommit := some record } }
      have hcounters := nextRequest_counters { released with agent := { released.agent with pendingCommit := some record } }
      rw [← ht] at hrequest hcounters
      refine ⟨ht, ?_, ?_, ?_, ?_, ?_, ?_⟩
      · rw [hcounters]
        exact congrArg (fun x => x.counters.commitsApplied) htraffic.agent
      · exact hrequest.envelope.trans htraffic.envelope
      · have hlean : released.lean = s.lean := htraffic.lean
        rw [hrequest.lean]
        show released.lean.row = s.lean.row
        rw [hlean]
      · exact hrequest.shaper.trans htraffic.shaper
      · rw [hrequest.agent]
        exact (congrArg Agent.stage htraffic.agent).trans hstage
      · rw [hrequest.agent]
  · have hflow := lockTold_flow c s
    have hagent : (lockTold c s).agent = s.agent := hflow.agent
    have hpc' : (lockTold c s).agent.pendingCommit = some pc := by rw [hagent, hpc]
    obtain ⟨es', heq, hes⟩ := applyPendingCommit_of_some hpc'
    obtain rfl := hes es (by rw [hagent, hstage])
    obtain ⟨hcommit, -, henvelope, hlast, hrow, hdeferred, hcommitAgent⟩ := commitReplied_flow pc es' (lockTold c s)
    have hexec : exec .cycleCompletion s = .next (pendingAnchorStart (commitReplied pc es' (lockTold c s))) := by
      rw [← heq, ← cycleCompletion_eq hcycle]
      exact unlessReset_of_not_inReset _ hreset
    obtain ⟨hexchange, -, hcount⟩ := pendingAnchorStart_leaves (commitReplied pc es' (lockTold c s))
    have hflowEnvelope : (lockTold c s).envelope = s.envelope := hflow.envelope
    refine ⟨_, hexec, ?_, ?_, fun hpending => ?_, ?_, ?_, fun hpool htraced => ?_⟩
    · rw [hexchange.envelope, henvelope, hflowEnvelope]
    · rw [hexchange.shaper, hlast]
    · have hpending' : (commitReplied pc es' (lockTold c s)).lean.pendingAnchor = false := by
        rw [hcommit.lean, hflow.lean]
        exact hpending
      rw [pendingAnchorStart_of_none hpending', (report_reaction ..).lean]
      exact hrow
    · rw [hexchange.agent, hcommitAgent, hagent]
    · rw [hcount, hdeferred, hflow.lean]
      rfl
    · have hposted := pendingAnchorStart_posted
        (commitReplied_posted (lockTold_loose c (commit_loose hpool htraced hpc)) es')
      have hnode : (lockTold c s).node = s.node := hflow.node
      refine ⟨?_, hposted.place⟩
      rw [hposted.bytes, hnode]
      rfl

end Sys2Proof.Machine
end

section
/-!
PROOF. Fault records changed at once: the clearing of the faults and the application of a PARAM commit (R164, R167,
R168, R170, R193).
-/
namespace Sys2Proof.Machine

/-! ## The settling of changed records -/

section settle
variable {old : Vector FaultRecord 16} {s u : State}

theorem masksChange_iff (old : Vector FaultRecord 16) (u : State) :
    masksChange old u = true ↔
      ∃ k, inStatusMask k u = true ∧ flagsDiffer (look old (faultIndex k)) (faultRecord k u) = true := by
  rw [masksChange, List.any_eq_true]
  constructor
  · rintro ⟨i, -, hi⟩
    obtain ⟨k, rfl⟩ := exists_faultIndex_eq i
    exact ⟨k, Bool.and_eq_true_iff.1 hi⟩
  · rintro ⟨k, hmask, hdiffer⟩
    exact ⟨faultIndex k, List.mem_finRange _, Bool.and_eq_true_iff.2 ⟨hmask, hdiffer⟩⟩

theorem settleFaults_of_change (h : masksChange old u = true) : settleFaults old u = wantStatus (judgeAlert u) :=
  if_pos h

theorem settleFaults_of_same (h : ¬masksChange old u = true) : settleFaults old u = judgeAlert u := if_neg h

theorem settleFaults_reaction (old : Vector FaultRecord 16) (u : State) : ReactionOnly u (settleFaults old u) := by
  by_cases h : masksChange old u = true
  · rw [settleFaults_of_change h]
    exact (judgeAlert_reaction u).trans (wantStatus_reacts _).reactionOnly
  · rw [settleFaults_of_same h]
    exact judgeAlert_reaction u

theorem settleFaults_tells (old : Vector FaultRecord 16) (u : State) : Tells u (settleFaults old u) := by
  have hjudged : Tells u (judgeAlert u) := .of_same rfl rfl
  by_cases h : masksChange old u = true
  · rw [settleFaults_of_change h]
    exact hjudged.trans (wantStatus_reacts _).tells
  · rw [settleFaults_of_same h]
    exact hjudged

/-- ALERT is as the latches give it once changed records are settled (R168). -/
theorem settleFaults_alertFollows (old : Vector FaultRecord 16) (u : State) : AlertFollows (settleFaults old u) := by
  by_cases h : masksChange old u = true
  · rw [settleFaults_of_change h]
    exact (wantStatus_reacts _).alertFollows (judgeAlert_alertFollows u)
  · rw [settleFaults_of_same h]
    exact judgeAlert_alertFollows u

/-- Settling changes no record but those of EXCURSION and POOL_EXHAUSTED, and EXCURSION's where it is active only. -/
theorem settleFaults_record {j : FaultKind} (hj : j ≠ .poolExhausted)
    (hexc : j = .excursion → (faultRecord .excursion u).active = false) :
    faultRecord j (settleFaults old u) = faultRecord j u := by
  by_cases h : masksChange old u = true
  · rw [settleFaults_of_change h]
    exact wantStatus_record (s := judgeAlert u) hj fun he => .inr (.inl (hexc he))
  · rw [settleFaults_of_same h]
    rfl

theorem settleFaults_record_of_other {j : FaultKind} (hj : reportedAlong j = false) :
    faultRecord j (settleFaults old u) = faultRecord j u := by
  refine settleFaults_record ?_ fun h => ?_
  · rintro rfl
    cases hj
  · rw [h] at hj
    cases hj

/-- Status-wanted set where pool and status frames are as before. -/
theorem wantStatus_wantedFrom (hpool : u.pool = s.pool) (hwanted : u.monitor.statusWanted = s.monitor.statusWanted)
    (hhand : u.monitor.statusInHand = s.monitor.statusInHand) (hseq : u.monitor.statusSeq = s.monitor.statusSeq) :
    StatusWantedFrom s (wantStatus u) := by
  have hfree : lowestFree u = lowestFree s := by simp only [lowestFree, buffer, hpool]
  obtain ⟨halready, horiginated, hwaits⟩ := wantStatus_statusWantedFrom u
  rw [hwanted, hhand] at halready
  rw [hwanted, hhand, hfree] at horiginated hwaits
  rw [hseq] at horiginated
  rw [hpool] at hwaits
  exact ⟨halready, horiginated, hwaits⟩

end settle

/-! ## CLEAR_FAULTS -/

section clearing
variable {s : State}

theorem clearLatches_faults (s : State) :
    ∃ f, clearLatches s = { s with monitor := { s.monitor with faults := f } } := ⟨_, rfl⟩

theorem flagsDiffer_clearLatches (k : FaultKind) (s : State) :
    flagsDiffer (look s.monitor.faults (faultIndex k)) (faultRecord k (clearLatches s)) = true ↔
      (faultRecord k s).active = false ∧ (faultRecord k s).latched = true := by
  have hold : look s.monitor.faults (faultIndex k) = faultRecord k s := rfl
  rw [hold, faultRecord_clearLatches]
  split
  next h => simp [flagsDiffer, h]
  next h => simp [flagsDiffer, eq_false_of_ne_true h]

theorem masksChange_clearLatches (s : State) :
    masksChange s.monitor.faults (clearLatches s) = true ↔
      ∃ k, inStatusMask k s = true ∧ (faultRecord k s).active = false ∧ (faultRecord k s).latched = true := by
  have hmask (k : FaultKind) : inStatusMask k (clearLatches s) = inStatusMask k s := by
    obtain ⟨f, hf⟩ := clearLatches_faults s
    rw [hf]
    rfl
  simp only [masksChange_iff, hmask, flagsDiffer_clearLatches]

/-- The clearing of the table by kind (R167). -/
theorem faultRecord_clearTable {k : FaultKind} (hk : reportedAlong k = false) (s : State) :
    faultRecord k (clearTable s) =
      if (faultRecord k s).active then faultRecord k s
      else { faultRecord k s with latched := false, occurrences := 0 } := by
  rw [clearTable, settleFaults_record_of_other hk, faultRecord_clearLatches]

/-- A kind reported inactive ends, with the table cleared, at its reset record (R162, R167). -/
theorem clearTable_of_fallen {k : FaultKind} (hk : reportedAlong k = false)
    (h : (faultRecord k s).active = false) : faultRecord k (clearTable s) = FaultRecord.atReset := by
  rw [faultRecord_clearTable hk, h, if_neg Bool.false_ne_true]
  generalize faultRecord k s = r at h
  obtain ⟨active, latched, n⟩ := r
  cases h
  rfl

/-- A report of a kind inactive leaves it inactive where its severity is not 0. -/
theorem report_false_active {k : FaultKind} (hk : reportedAlong k = false) (hsev : severity k s ≠ 0) :
    (faultRecord k (report k false s)).active = false := by
  rw [(report_record k false s hk).1, takenRecord, if_neg hsev, if_neg Bool.false_ne_true]

theorem clearSlot_of_failed {d : Drive} (h : (s.drives.get d).state = .failed) :
    clearSlot d s = report (lostKind d) false (setSlot d { s.drives.get d with state := .idle, misses := 0 } s) := by
  unfold clearSlot
  dsimp only
  split
  next => rfl
  next hother => cases h.symm.trans hother
  next hother => cases h.symm.trans hother

theorem clearSlot_of_standing {d : Drive} (h : (s.drives.get d).state ≠ .failed) : clearSlot d s = s := by
  unfold clearSlot
  dsimp only
  split
  next hother => exact absurd hother h
  all_goals rfl

/-- A report inactive leaves mode and lock, POOL_EXHAUSTED along the way of severity 0 or 1. -/
theorem report_false_lock (k : FaultKind) (h : severity .poolExhausted s ≤ 1) : (report k false s).lock = s.lock := by
  show (takeInactive wantStatus k s).lock = _
  unfold takeInactive
  dsimp only
  split
  · rfl
  · split
    · exact (wantStatus_calm (s := putFault k { faultRecord k s with active := false } s) h).2
    · rfl

theorem clearSlot_lock (d : Drive) (h : severity .poolExhausted s ≤ 1) : (clearSlot d s).lock = s.lock := by
  by_cases hfailed : (s.drives.get d).state = .failed
  · rw [clearSlot_of_failed hfailed]
    exact report_false_lock (s := setSlot d _ s) _ h
  · rw [clearSlot_of_standing hfailed]

theorem clearTable_lock (h : severity .poolExhausted s ≤ 1) : (clearTable s).lock = s.lock := by
  obtain ⟨f, hf⟩ := clearLatches_faults s
  rw [clearTable, hf]
  by_cases hchange : masksChange s.monitor.faults { s with monitor := { s.monitor with faults := f } } = true
  · rw [settleFaults_of_change hchange]
    exact (wantStatus_calm (s := judgeAlert { s with monitor := { s.monitor with faults := f } }) h).2
  · rw [settleFaults_of_same hchange]
    rfl

/-- The slot is as before but for its ack timer, which only an AWAITING slot is told to start. -/
def SlotKept (d : Drive) (s t : State) : Prop :=
  t.drives.get d = { s.drives.get d with timer := (t.drives.get d).timer }
    ∧ ((s.drives.get d).state ≠ .awaiting → t.drives.get d = s.drives.get d)

theorem SlotKept.refl (d : Drive) (s : State) : SlotKept d s s := ⟨rfl, fun _ => rfl⟩

theorem SlotKept.trans {d : Drive} {s t u : State} (h : SlotKept d s t) (k : SlotKept d t u) : SlotKept d s u := by
  refine ⟨?_, fun hs => ?_⟩
  · rw [k.1, h.1]
  · have ht := h.2 hs
    rw [k.2 (by rwa [ht]), ht]

theorem KeepsBlocks.slot {s t : State} (h : KeepsBlocks s t) (d : Drive) :
    t.drives.get d = { s.drives.get d with timer := (t.drives.get d).timer } := by
  cases d with
  | tilt => exact h.tilt
  | steer => exact h.steer

theorem report_slotKept (k : FaultKind) (active : Bool) (d : Drive) (s : State) : SlotKept d s (report k active s) :=
  ⟨(report_reaction k active s).slot d, fun hs => (report_reacts k active s).tells.slot_of_untold (.inl hs)⟩

theorem clearSlot_slotKept {d e : Drive} (h : e ≠ d) (s : State) : SlotKept d s (clearSlot e s) := by
  by_cases hfailed : (s.drives.get e).state = .failed
  · have hset (y : DriveSlot) : SlotKept d s (setSlot e y s) := by
      have hsame : (setSlot e y s).drives.get d = s.drives.get d := by rw [setSlot_drives, drives_get_set, if_neg h]
      exact ⟨by rw [hsame], fun _ => hsame⟩
    rw [clearSlot_of_failed hfailed]
    exact (hset _).trans (report_slotKept ..)
  · rw [clearSlot_of_standing hfailed]
    exact .refl d s

theorem clearLock_slotKept (d : Drive) (s : State) : SlotKept d s (clearLock s) := report_slotKept ..

theorem settleFaults_slotKept (old : Vector FaultRecord 16) (d : Drive) (u : State) :
    SlotKept d u (settleFaults old u) :=
  ⟨(settleFaults_reaction old u).slot d, fun hs => (settleFaults_tells old u).slot_of_untold (.inl hs)⟩

theorem clearTable_slotKept (d : Drive) (s : State) : SlotKept d s (clearTable s) := by
  obtain ⟨f, hf⟩ := clearLatches_faults s
  rw [clearTable, hf]
  exact settleFaults_slotKept s.monitor.faults d { s with monitor := { s.monitor with faults := f } }

/-- A FAILED slot cleared is IDLE with no misses (R136). -/
theorem clearSlot_slot_of_failed {d : Drive} (h : (s.drives.get d).state = .failed) :
    (clearSlot d s).drives.get d = { s.drives.get d with state := .idle, misses := 0 } := by
  have hslot : (setSlot d { s.drives.get d with state := .idle, misses := 0 } s).drives.get d =
      { s.drives.get d with state := .idle, misses := 0 } := drives_get_set_same ..
  rw [clearSlot_of_failed h, (report_slotKept ..).2 (by rw [hslot]; simp), hslot]

theorem clearSlot_record_other {j : FaultKind} {e : Drive} (hj : reportedAlong j = false) (hne : j ≠ lostKind e) :
    faultRecord j (clearSlot e s) = faultRecord j s := by
  by_cases hfailed : (s.drives.get e).state = .failed
  · rw [clearSlot_of_failed hfailed, report_record_other hj hne]
    rfl
  · rw [clearSlot_of_standing hfailed]

theorem clearSlot_severity (d : Drive) (k : FaultKind) (s : State) : severity k (clearSlot d s) = severity k s :=
  severity_of_params (by rw [(clearSlot_exchange d s).agent]) k

/-- The drive-lost kind of a FAILED slot is inactive once the slot has been cleared (R136). -/
theorem clearSlot_record_of_failed {d : Drive} (h : (s.drives.get d).state = .failed)
    (hsev : severity (lostKind d) s ≠ 0) : (faultRecord (lostKind d) (clearSlot d s)).active = false := by
  rw [clearSlot_of_failed h]
  exact report_false_active (s := setSlot d _ s) (reportedAlong_lostKind d) hsev

end clearing

/-- The owners in their order: TILT slot, STEER slot, lock, table (R167). -/
def ownersCleared (s : State) : State := clearLock (clearSlot .steer (clearSlot .tilt s))

section owners
variable {d : Drive} {s : State}

theorem ownersCleared_slot_of_failed (h : (s.drives.get d).state = .failed) :
    (ownersCleared s).drives.get d = { s.drives.get d with state := .idle, misses := 0 } := by
  cases d with
  | tilt =>
    have hcleared := clearSlot_slot_of_failed h
    have hkept := (clearSlot_slotKept (d := .tilt) (e := .steer) (by simp) (clearSlot .tilt s)).trans
      (clearLock_slotKept .tilt _)
    exact (hkept.2 (by rw [hcleared]; simp)).trans hcleared
  | steer =>
    have hsame := (clearSlot_slotKept (d := .steer) (e := .tilt) (by simp) s).2 (by rw [h]; simp)
    have hcleared := clearSlot_slot_of_failed (d := .steer) (s := clearSlot .tilt s) (by rw [hsame]; exact h)
    have hkept := clearLock_slotKept .steer (clearSlot .steer (clearSlot .tilt s))
    rw [hsame] at hcleared
    exact (hkept.2 (by rw [hcleared]; simp)).trans hcleared

theorem ownersCleared_slot_of_standing (h : (s.drives.get d).state ≠ .failed) : SlotKept d s (ownersCleared s) := by
  cases d with
  | tilt =>
    have hsteer := clearSlot_slotKept (d := .tilt) (e := .steer) (by simp) s
    rw [ownersCleared, clearSlot_of_standing h]
    exact hsteer.trans (clearLock_slotKept ..)
  | steer =>
    have htilt := clearSlot_slotKept (d := .steer) (e := .tilt) (by simp) s
    have hstate : ((clearSlot .tilt s).drives.get .steer).state ≠ .failed := by
      rw [htilt.1]
      exact h
    rw [ownersCleared, clearSlot_of_standing hstate]
    exact htilt.trans (clearLock_slotKept ..)

/-- The drive-lost kind of a FAILED slot is inactive when the owners have acted. -/
theorem ownersCleared_lost (h : (s.drives.get d).state = .failed) (hsev : severity (lostKind d) s ≠ 0) :
    (faultRecord (lostKind d) (ownersCleared s)).active = false := by
  have hlock (u : State) : faultRecord (lostKind d) (clearLock u) = faultRecord (lostKind d) u :=
    report_record_other (reportedAlong_lostKind d) (by cases d <;> simp [lostKind]) ..
  rw [ownersCleared, hlock]
  cases d with
  | tilt =>
    rw [clearSlot_record_other rfl (by simp [lostKind])]
    exact clearSlot_record_of_failed h hsev
  | steer =>
    have hsame := (clearSlot_slotKept (d := .steer) (e := .tilt) (by simp) s).2 (by rw [h]; simp)
    exact clearSlot_record_of_failed (by rw [hsame]; exact h) (by rwa [clearSlot_severity])

theorem ownersCleared_stuck (hsev : severity .lockStuck s ≠ 0) :
    (faultRecord .lockStuck (ownersCleared s)).active = false :=
  report_false_active rfl (by rwa [clearSlot_severity, clearSlot_severity])

theorem ownersCleared_lock (h : severity .poolExhausted s ≤ 1) : (ownersCleared s).lock = s.lock := by
  have htilt : severity .poolExhausted (clearSlot .tilt s) ≤ 1 := by rwa [clearSlot_severity]
  have hsteer : severity .poolExhausted (clearSlot .steer (clearSlot .tilt s)) ≤ 1 := by rwa [clearSlot_severity]
  rw [ownersCleared, clearLock, report_false_lock _ hsteer, clearSlot_lock _ htilt, clearSlot_lock _ h]

theorem ownersCleared_severity (k : FaultKind) (s : State) : severity k (ownersCleared s) = severity k s := by
  have hlock (u : State) : severity k (clearLock u) = severity k u := (report_reaction ..).severity k
  rw [ownersCleared, hlock, clearSlot_severity, clearSlot_severity]

end owners

/-- The clearing of the table asks for a status frame when it clears a latched flag of the mask (R167, R170). -/
theorem clearTable_wantedFrom {u : State}
    (h : ∃ k, inStatusMask k u = true ∧ (faultRecord k u).active = false ∧ (faultRecord k u).latched = true) :
    StatusWantedFrom u (clearTable u) := by
  obtain ⟨f, hf⟩ := clearLatches_faults u
  rw [clearTable, settleFaults_of_change ((masksChange_clearLatches u).2 h), hf]
  exact wantStatus_wantedFrom rfl rfl rfl rfl

/-- Settles O52: the owners first, then the table with its judgement. -/
theorem clearFaultsReachesEveryOwner : Obligations.ClearFaultsReachesEveryOwner := by
  intro payload s hreset hin cleared
  have hexec : exec .clearFaults s = .next (clearFaults payload s) :=
    exec_request_of_long (fun _ => rfl) hreset hin (two_le_of_requestInHand hin).2
  have hcleared : cleared = clearTable (ownersCleared s) := rfl
  refine ⟨hexec, fun d => ⟨fun hfailed => ?_, fun hstanding => ?_⟩, fun hsev => ?_, fun hpool => ?_, fun k u hk => ?_,
    fun u => ⟨?_, clearTable_wantedFrom, fun hno => ?_⟩⟩
  · have hslot := ownersCleared_slot_of_failed hfailed
    have hkept := (clearTable_slotKept d (ownersCleared s)).2 (by rw [hslot]; simp)
    rw [hcleared, hkept, hslot]
    exact ⟨rfl, rfl, fun hsev => clearTable_of_fallen (reportedAlong_lostKind d) (ownersCleared_lost hfailed hsev)⟩
  · exact ((ownersCleared_slot_of_standing hstanding).trans (clearTable_slotKept d _)).1
  · exact clearTable_of_fallen rfl (ownersCleared_stuck hsev)
  · rw [hcleared, clearTable_lock (by rwa [ownersCleared_severity]), ownersCleared_lock hpool]
  · exact faultRecord_clearTable hk u
  · exact settleFaults_alertFollows u.monitor.faults (clearLatches u)
  · obtain ⟨f, hf⟩ := clearLatches_faults u
    rw [clearTable, settleFaults_of_same (mt (masksChange_clearLatches u).1 hno), hf]
    exact ⟨rfl, rfl⟩

end Sys2Proof.Machine
end

section
/-!
PROOF. The application of a PARAM commit (R164, R168, R170, R190, R193).
-/
namespace Sys2Proof.Machine

section taken
variable {es : List (Fin 44 × Word)} {s : State}

/-- The monitor takes the interval, the muted records and the muted qualifier (R164, R193). -/
theorem monitor_paramsTaken (es : List (Fin 44 × Word)) (s : State) :
    (paramsTaken es s).monitor =
      { s.monitor with
        interval := startUnlessZero (statusInterval (paramsTaken es s))
        faults := (paramsTaken es s).monitor.faults
        quietPorts :=
          if severity .linkQuiet (paramsTaken es s) = 0 then { cockpit := false, chassis := false }
          else s.monitor.quietPorts } := by
  simp only [paramsTaken, resetMutedKinds, restartOwners, restartQuiet, forgiveMisses, closeCommit]
  rfl

theorem rx_restartOwners (u : State) (p : Port) :
    (restartOwners u).rx.get p = { u.rx.get p with quiet := startUnlessZero (quietTime u) } := by
  cases p <;> rfl

theorem rx_paramsTaken (es : List (Fin 44 × Word)) (s : State) (p : Port) :
    (paramsTaken es s).rx.get p =
      { s.rx.get p with quiet := startUnlessZero (quietTime (paramsTaken es s)) } := by
  have hquiet : quietTime (paramsTaken es s) =
      quietTime (closeCommit { s with agent := { s.agent with params := overlay s.agent.params es } }) := by
    simp only [quietTime, param, agent_paramsTaken]
    rfl
  rw [hquiet]
  exact rx_restartOwners _ p

theorem faultRecord_paramsTaken (es : List (Fin 44 × Word)) (s : State) (k : FaultKind) :
    faultRecord k (paramsTaken es s) =
      if severity k (paramsTaken es s) = 0 then FaultRecord.atReset else faultRecord k s :=
  faults_paramsTaken es s (faultIndex k)

theorem flagsDiffer_paramsTaken (k : FaultKind) (es : List (Fin 44 × Word)) (s : State) :
    flagsDiffer (look s.monitor.faults (faultIndex k)) (faultRecord k (paramsTaken es s)) = true ↔
      severity k (paramsTaken es s) = 0 ∧ ((faultRecord k s).active = true ∨ (faultRecord k s).latched = true) := by
  have hold : look s.monitor.faults (faultIndex k) = faultRecord k s := rfl
  rw [hold, faultRecord_paramsTaken]
  split
  next h => simp [flagsDiffer, FaultRecord.atReset, h]
  next h => simp [flagsDiffer, h]

end taken

/-- The claim that status-wanted makes is refused with no buffer FREE, and reported so (R33, R171). -/
theorem wantStatus_refused {s : State} (hwanted : s.monitor.statusWanted = false) (hhand : s.monitor.statusInHand = none)
    (hnone : lowestFree s = none) :
    faultRecord .poolExhausted (wantStatus s) =
      takenRecord (severity .poolExhausted s) true (faultRecord .poolExhausted s) := by
  rw [wantStatus_pool, if_pos ⟨hwanted, hhand⟩, hnone]
  rfl

theorem settleFaults_wantedFrom {old : Vector FaultRecord 16} {s u : State} (h : masksChange old u = true)
    (hpool : u.pool = s.pool) (hwanted : u.monitor.statusWanted = s.monitor.statusWanted)
    (hhand : u.monitor.statusInHand = s.monitor.statusInHand) (hseq : u.monitor.statusSeq = s.monitor.statusSeq) :
    StatusWantedFrom s (settleFaults old u) := by
  rw [settleFaults_of_change h]
  exact wantStatus_wantedFrom hpool hwanted hhand hseq

theorem settleFaults_refused {old : Vector FaultRecord 16} {u : State} (h : masksChange old u = true)
    (hwanted : u.monitor.statusWanted = false) (hhand : u.monitor.statusInHand = none) (hnone : lowestFree u = none) :
    faultRecord .poolExhausted (settleFaults old u) =
      takenRecord (severity .poolExhausted u) true (faultRecord .poolExhausted u) := by
  rw [settleFaults_of_change h]
  exact wantStatus_refused (s := judgeAlert u) hwanted hhand hnone

/-- A kind of severity 0 with its reset record keeps it while changed records are settled. -/
theorem settleFaults_record_of_muted {k : FaultKind} {old : Vector FaultRecord 16} {u : State}
    (hsev : severity k u = 0) (hreset : faultRecord k u = FaultRecord.atReset) :
    faultRecord k (settleFaults old u) = FaultRecord.atReset := by
  by_cases hk : k = .poolExhausted
  · subst hk
    by_cases h : masksChange old u = true
    · rw [settleFaults_of_change h, wantStatus_pool]
      have hreset' : faultRecord .poolExhausted (judgeAlert u) = FaultRecord.atReset := hreset
      have hsev' : severity .poolExhausted (judgeAlert u) = 0 := hsev
      rw [hreset', hsev', takenRecord, if_pos rfl, ite_self]
    · rw [settleFaults_of_same h]
      exact hreset
  · rw [settleFaults_record hk, hreset]
    rintro rfl
    rw [hreset]
    rfl

/-- Settles O49: the owners take the parameters, then the changed records are settled. -/
theorem paramApplicationReachesEveryOwner : Obligations.ParamApplicationReachesEveryOwner := by
  intro es s t changed
  have ht : t = settleFaults s.monitor.faults (paramsTaken es s) := rfl
  have hreaction := settleFaults_reaction s.monitor.faults (paramsTaken es s)
  have halert := settleFaults_alertFollows s.monitor.faults (paramsTaken es s)
  rw [← ht] at hreaction halert
  have hagent := hreaction.agent.trans (agent_paramsTaken es s)
  have hseverity (k : FaultKind) : severity k t = severity k (paramsTaken es s) := hreaction.severity k
  have hmask (k : FaultKind) : inStatusMask k t = inStatusMask k (paramsTaken es s) := by
    simp only [inStatusMask, statusMask, hreaction.agent]
  have hmonitor := monitor_paramsTaken es s
  have hmuted (k : FaultKind) (h : severity k t = 0) : faultRecord k t = FaultRecord.atReset := by
    rw [hseverity] at h
    have hreset : faultRecord k (paramsTaken es s) = FaultRecord.atReset := by rw [faultRecord_paramsTaken, if_pos h]
    exact settleFaults_record_of_muted h hreset
  have hkept (k : FaultKind) (h : severity k t ≠ 0) (hk : reportedAlong k = false) :
      faultRecord k t = faultRecord k s := by
    rw [hseverity] at h
    have hsame : faultRecord k (paramsTaken es s) = faultRecord k s := by rw [faultRecord_paramsTaken, if_neg h]
    exact (settleFaults_record_of_other hk).trans hsame
  have hchanged : masksChange s.monitor.faults (paramsTaken es s) = true ↔ changed := by
    rw [masksChange_iff]
    refine exists_congr fun k => ?_
    rw [flagsDiffer_paramsTaken, hmask, hseverity]
    exact ⟨fun ⟨hin, hzero, hflag⟩ => ⟨hzero, hin, hflag⟩, fun ⟨hzero, hin, hflag⟩ => ⟨hin, hzero, hflag⟩⟩
  refine ⟨by rw [hagent], by rw [hagent], by rw [hagent], fun d => ?_, fun p => ?_, ?_, hmuted, hkept, ?_, halert,
    fun h => ?_, fun h => ?_, ?_⟩
  · rw [hreaction.slot d, drives_paramsTaken]
  · have hquiet : quietTime t = quietTime (paramsTaken es s) := by simp only [quietTime, param, hreaction.agent]
    rw [hreaction.rx, rx_paramsTaken, hquiet]
  · have hinterval : statusInterval t = statusInterval (paramsTaken es s) := by
      simp only [statusInterval, param, hreaction.agent]
    rw [hreaction.interval, hinterval, hmonitor]
  · rw [hreaction.quietPorts, hseverity, hmonitor]
  · have hwanted : (paramsTaken es s).monitor.statusWanted = s.monitor.statusWanted := by rw [hmonitor]
    have hhand : (paramsTaken es s).monitor.statusInHand = s.monitor.statusInHand := by rw [hmonitor]
    have hseq : (paramsTaken es s).monitor.statusSeq = s.monitor.statusSeq := by rw [hmonitor]
    have hpool : (paramsTaken es s).pool = s.pool := by rw [paramsTaken_eq]
    have hfree : lowestFree (paramsTaken es s) = lowestFree s := by simp only [lowestFree, buffer, hpool]
    refine ⟨settleFaults_wantedFrom (hchanged.2 h) hpool hwanted hhand hseq, fun hw hn hnone hsev => ?_⟩
    have hrefused := settleFaults_refused (hchanged.2 h) (hwanted.trans hw) (hhand.trans hn) (hfree.trans hnone)
    rw [ht, hrefused, ← ht, faultRecord_paramsTaken, if_neg (by rwa [← hseverity]), hseverity]
  · rw [ht, settleFaults_of_same (mt hchanged.1 h)]
    show (paramsTaken es s).monitor.statusWanted = _ ∧ (paramsTaken es s).monitor.statusInHand = _
    rw [hmonitor]
    exact ⟨rfl, rfl⟩
  · have heq := paramsTaken_eq es s
    refine ⟨hreaction.channels.trans ?_, hreaction.classifier.trans ?_, hreaction.envelope.trans ?_,
      hreaction.shaper.trans ?_, hreaction.node.trans ?_, hreaction.resets.trans ?_⟩
    all_goals rw [heq]

end Sys2Proof.Machine
end

section
/-!
PROOF. The application of STREAM and CHANNEL commits (R18, R21, R69, R70, R190).
-/
namespace Sys2Proof.Machine

/-! ## Staged entries over a table -/

section overlays
variable {α : Type} {n : Nat}

theorem overlay_cons (v : Vector α n) (e : Fin n × α) (es : List (Fin n × α)) :
    overlay v (e :: es) = overlay (put v e.1 e.2) es := rfl

theorem stageHolds_eq_false_iff (es : List (Fin n × α)) (i : Fin n) :
    stageHolds es i = false ↔ ∀ e ∈ es, e.1 ≠ i := by
  simp [stageHolds]

/-- An index that the stage does not hold keeps its entry. -/
theorem look_overlay_of_not_held {es : List (Fin n × α)} {i : Fin n} (h : ∀ e ∈ es, e.1 ≠ i) (v : Vector α n) :
    look (overlay v es) i = look v i := by
  induction es generalizing v with
  | nil => rfl
  | cons e rest ih =>
    rw [overlay_cons, ih fun f hf => h f (List.mem_cons_of_mem _ hf), look_put_other _ _ _ _ (h e List.mem_cons_self)]

/-- With the indices in rising order each staged entry is in force (R190). -/
theorem look_overlay_of_mem {es : List (Fin n × α)} (hsorted : (es.map fun e => e.1.val).Pairwise (· < ·))
    {e : Fin n × α} (he : e ∈ es) (v : Vector α n) : look (overlay v es) e.1 = e.2 := by
  induction es generalizing v with
  | nil => exact absurd he List.not_mem_nil
  | cons f rest ih =>
    rw [List.map_cons, List.pairwise_cons] at hsorted
    obtain ⟨hhead, hrest⟩ := hsorted
    rw [overlay_cons]
    rcases List.mem_cons.1 he with rfl | hmem
    · rw [look_overlay_of_not_held, look_put_same]
      intro g hg heq
      have hlt := hhead _ (List.mem_map_of_mem hg)
      rw [heq] at hlt
      exact absurd hlt (Nat.lt_irrefl _)
    · exact ih hrest hmem _

end overlays

/-! ## STREAM -/

/-- Open mode ends, and BRIDGE with it (R21, R86). -/
theorem endOpenMode_leaves (s : State) :
    (endOpenMode s).classifier = { s.classifier with openMode := false }
      ∧ (endOpenMode s).lean.mode =
          (if s.classifier.openMode = true ∧ s.lean.mode = .bridge then .standby else s.lean.mode)
      ∧ (endOpenMode s).agent = s.agent := by
  cases hopen : s.classifier.openMode with
  | false =>
    have hsame : endOpenMode s = s := if_neg (by simp [hopen])
    rw [hsame, if_neg (by simp), ← hopen]
    exact ⟨rfl, rfl, rfl⟩
  | true =>
    cases hmode : s.lean.mode with
    | bridge => simp [endOpenMode, hopen, hmode]
    | standby | active | recover => simp [endOpenMode, hopen, hmode]

/-- What a STREAM commit leaves of classifier, mode and agent (R18, R21, R190). -/
theorem applyStream_leaves (es : List (Fin 24 × StreamEntry)) (s : State) :
    (applyStream es s).classifier =
        { s.classifier with
          table := overlay s.classifier.table es, openMode := s.classifier.openMode && !stageHolds es 0 }
      ∧ (applyStream es s).lean.mode =
          (if s.classifier.openMode = true ∧ stageHolds es 0 = true ∧ s.lean.mode = .bridge then .standby
          else s.lean.mode)
      ∧ (applyStream es s).agent.stage = .empty
      ∧ (applyStream es s).agent.counters.commitsApplied = bump s.agent.counters.commitsApplied := by
  cases hholds : stageHolds es 0 with
  | false =>
    have heq : applyStream es s =
        closeCommit { s with classifier := { s.classifier with table := overlay s.classifier.table es } } :=
      if_neg (by simp [hholds])
    rw [heq]
    simp [closeCommit, setAgentCounters, setStage]
  | true =>
    have heq : applyStream es s =
        endOpenMode (closeCommit { s with classifier := { s.classifier with table := overlay s.classifier.table es } }) :=
      if_pos hholds
    obtain ⟨hclassifier, hmode, hagent⟩ := endOpenMode_leaves
      (closeCommit { s with classifier := { s.classifier with table := overlay s.classifier.table es } })
    rw [heq, hclassifier, hmode, hagent]
    refine ⟨?_, ?_, rfl, rfl⟩
    · rw [Bool.not_true, Bool.and_false]
      rfl
    · simp only [true_and]
      rfl

/-! ## CHANNEL -/

section roles
variable {old : Vector ChannelEntry 16} {r role : Role} {k : FaultKind} {s t : State}

theorem staleKind_injective (hr : staleKind r = some k) (hrole : staleKind role = some k) : r = role := by
  cases role <;> cases hrole <;> cases r <;> cases hr <;> rfl

theorem mem_requiredRoles_of_staleKind (h : staleKind role = some k) : role ∈ requiredRoles := by
  cases role <;> simp_all [staleKind, requiredRoles]

theorem staleKept_of_channels (h : t.channels = s.channels) : staleKept old r t = staleKept old r s := by
  simp only [staleKept, h]

theorem reportRole_reaction (old : Vector ChannelEntry 16) (r : Role) (s : State) : ReactionOnly s (reportRole old r s) := by
  unfold reportRole reportStaleOf
  split
  · exact .refl s
  · split
    · exact .refl s
    · exact report_reaction ..

/-- The report of a role leaves the record of another role's kind. -/
theorem reportRole_record_other (hk : staleKind role = some k) (hne : r ≠ role) :
    faultRecord k (reportRole old r s) = faultRecord k s := by
  unfold reportRole reportStaleOf
  split
  · rfl
  · split
    · rfl
    next j hj =>
      refine report_record_other (reportedAlong_of_staleKind hk) ?_ false s
      rintro rfl
      exact hne (staleKind_injective hj hk)

/-- The report of a role: inactive unless its stale condition stays (R70). -/
theorem reportRole_record (hk : staleKind role = some k) :
    faultRecord k (reportRole old role s) =
      if staleKept old role s then faultRecord k s
      else takenRecord (severity k s) false (faultRecord k s) := by
  unfold reportRole reportStaleOf
  split
  next => rfl
  next =>
    simp only [hk]
    exact (report_record k false s (reportedAlong_of_staleKind hk)).1

/-- Reports of other roles leave the record of a role's kind, and a role's own report decides it. -/
theorem foldRoles_record (hk : staleKind role = some k) (l : List Role) (s : State) (hnodup : l.Nodup) :
    faultRecord k (l.foldl (fun s r => reportRole old r s) s) =
      if role ∈ l ∧ ¬staleKept old role s = true then takenRecord (severity k s) false (faultRecord k s)
      else faultRecord k s := by
  induction l generalizing s with
  | nil => simp
  | cons r rest ih =>
    rw [List.nodup_cons] at hnodup
    obtain ⟨hout, hrest⟩ := hnodup
    have hreaction := reportRole_reaction old r s
    have hkept : staleKept old role (reportRole old r s) = staleKept old role s :=
      staleKept_of_channels hreaction.channels
    rw [List.foldl_cons, ih _ hrest, hkept, hreaction.severity k]
    by_cases hr : r = role
    · subst hr
      rw [if_neg (fun h => hout h.1), reportRole_record hk]
      by_cases hstale : staleKept old r s = true
      · rw [if_pos hstale, if_neg (fun h => h.2 hstale)]
      · rw [if_neg hstale, if_pos ⟨List.mem_cons_self, hstale⟩]
    · rw [reportRole_record_other hk hr]
      simp [Ne.symm hr]

theorem reportRoles_record (hk : staleKind role = some k) (old : Vector ChannelEntry 16) (s : State) :
    faultRecord k (reportRoles old s) =
      if staleKept old role s then faultRecord k s
      else takenRecord (severity k s) false (faultRecord k s) := by
  have hfold := foldRoles_record (old := old) hk requiredRoles s (by decide)
  by_cases hstale : staleKept old role s = true
  · rw [if_neg (fun h => h.2 hstale)] at hfold
    rw [if_pos hstale]
    exact hfold
  · rw [if_pos ⟨mem_requiredRoles_of_staleKind hk, hstale⟩] at hfold
    rw [if_neg hstale]
    exact hfold

theorem reportRoles_reaction (old : Vector ChannelEntry 16) (s : State) : ReactionOnly s (reportRoles old s) := by
  have hfold (l : List Role) (u : State) : ReactionOnly u (l.foldl (fun s r => reportRole old r s) u) := by
    induction l generalizing u with
    | nil => exact .refl u
    | cons r rest ih => exact (reportRole_reaction old r u).trans (ih _)
  exact hfold requiredRoles s

theorem look_rebind (old new : Vector ChannelEntry 16) (records : Vector ChannelRecord 16) (c : Channel) :
    look (rebind old new records) c =
      if look new c = look old c then look records c else reboundRecord (look new c) (look records c) := by
  simp only [rebind, look, Vector.getElem_ofFn]

/-- A stale condition stays over a CHANNEL commit where the holder stays, is not rebound and was stale (R70). -/
theorem staleKept_rebind (old : Vector ChannelEntry 16) (role : Role) {s : State} {records : Vector ChannelRecord 16}
    (hrecords : s.channels.records = rebind old s.channels.table records) :
    staleKept old role s = true ↔
      ∃ h, holderOf old role = some h ∧ holderOf s.channels.table role = some h
        ∧ look s.channels.table h = look old h ∧ (look records h).stale = true := by
  unfold staleKept
  split
  next a b ha hb =>
    rw [ha, hb, hrecords, look_rebind]
    constructor
    · intro h
      simp only [Bool.and_eq_true, beq_iff_eq] at h
      obtain ⟨⟨rfl, hsame⟩, hstale⟩ := h
      rw [if_pos hsame.symm] at hstale
      exact ⟨a, rfl, rfl, hsame.symm, hstale⟩
    · rintro ⟨h, hah, hbh, hsame, hstale⟩
      cases hah
      cases hbh
      simp [hsame, hstale]
  next hno =>
    simp only [Bool.false_eq_true, false_iff]
    rintro ⟨h, ha, hb, -⟩
    exact hno h h ha hb

end roles

/-- Settles O48: the overlay of the stage; the rebinding by index; the roles' reports by `reportRoles_record`. -/
theorem applicationPutsTheStagedEntriesInForce : Obligations.ApplicationPutsTheStagedEntriesInForce := by
  refine ⟨fun es s hsorted => ?_, fun es c s => ?_⟩
  · obtain ⟨hclassifier, hmode, hstage, hcount⟩ := applyStream_leaves es s
    refine ⟨fun e he => ?_, fun i hi => ?_, hstage, hcount, ?_, hmode⟩
    · rw [hclassifier]
      exact look_overlay_of_mem hsorted he _
    · rw [hclassifier]
      exact look_overlay_of_not_held ((stageHolds_eq_false_iff es i).1 hi) _
    · rw [hclassifier]
  · intro t old new r
    let rebound : State :=
      closeCommit { s with channels :=
        { table := overlay s.channels.table es
          records := rebind s.channels.table (overlay s.channels.table es) s.channels.records } }
    have ht : t = reportRoles s.channels.table rebound := rfl
    have hreaction := reportRoles_reaction s.channels.table rebound
    rw [← ht] at hreaction
    have htable : t.channels.table = overlay s.channels.table es := by rw [hreaction.channels]; rfl
    have hrecords : look t.channels.records c =
        if new = old then r else reboundRecord new r := by
      have hnew : new = look (overlay s.channels.table es) c := congrArg (look · c) htable
      rw [hreaction.channels, hnew]
      exact look_rebind ..
    refine ⟨htable, fun h => ?_, fun h => ?_, ?_, ?_, fun role k hk => ?_⟩
    · rw [hrecords, if_pos h]
    · rw [hrecords, if_neg h]
      rfl
    · rw [hreaction.agent]
      rfl
    · rw [hreaction.agent]
      rfl
    · intro kept
      have hkept : staleKept s.channels.table role rebound = true ↔ kept := by
        rw [staleKept_rebind s.channels.table role (s := rebound) (records := s.channels.records) rfl]
        simp only [kept, htable]
        rfl
      have hrecord := reportRoles_record hk s.channels.table rebound
      rw [← ht] at hrecord
      refine ⟨fun h => ?_, fun h => ?_⟩
      · rw [if_pos (hkept.2 h)] at hrecord
        exact hrecord
      · rw [if_neg (mt hkept.1 h)] at hrecord
        exact hrecord

end Sys2Proof.Machine
end

section
/-!
PROOF. A good frame at its receiver, and the condition LINK_QUIET, which no classification reports (R26, R29, R163).
-/
namespace Sys2Proof.Machine

/-! ## LINK_QUIET along a classification -/

/-- The record of LINK_QUIET is as before. -/
def LinkKept (s t : State) : Prop := faultRecord .linkQuiet t = faultRecord .linkQuiet s

theorem LinkKept.refl (s : State) : LinkKept s s := rfl

theorem LinkKept.trans {s t u : State} (h : LinkKept s t) (k : LinkKept t u) : LinkKept s u := Eq.trans k h

theorem LinkKept.after {s t u : State} (k : LinkKept t u) (h : LinkKept s t) : LinkKept s u := h.trans k

theorem TrafficOnly.linkKept {s t : State} (h : TrafficOnly s t) : LinkKept s t := faultRecord_of_faults h.faults _

theorem report_linkKept {k : FaultKind} (hk : k ≠ .linkQuiet) (active : Bool) (s : State) :
    LinkKept s (report k active s) := report_record_other rfl hk.symm active s

theorem report_lost_linkKept (d : Drive) (active : Bool) (s : State) : LinkKept s (report (lostKind d) active s) :=
  report_linkKept (by cases d <;> simp [lostKind]) active s

/-! ### Requests -/

theorem claimOrigin_linkKept (s : State) : LinkKept s (claimOrigin s).2 := by
  unfold claimOrigin
  split
  · exact (holdForOrigin_traffic _ s).linkKept.trans (report_linkKept (by simp) ..)
  · exact report_linkKept (by simp) ..

theorem dropRequest_linkKept (b : Token) (s : State) : LinkKept s (dropRequest b s) :=
  (releaseBuffer_traffic b s).linkKept

theorem beginFrom_linkKept (rs : List Request) (s : State) : LinkKept s (beginFrom rs s) := by
  induction rs generalizing s with
  | nil => exact .refl s
  | cons r rest ih =>
    have hclaim := claimOrigin_linkKept { s with agent := { s.agent with requests := rest } }
    unfold beginFrom
    generalize claimOrigin { s with agent := { s.agent with requests := rest } } = claim at hclaim
    obtain ⟨_ | b, u⟩ := claim
    · exact LinkKept.trans hclaim ((dropRequest_linkKept ..).trans (ih _))
    · exact hclaim

theorem takeRequest_linkKept (b : Token) (p : Port) (s : State) : LinkKept s (takeRequest b p s) := by
  unfold takeRequest beginRequests
  dsimp only
  split
  · exact beginFrom_linkKept ..
  · exact .refl s

/-! ### Drive exchanges -/

theorem deliverAck_linkKept (d : Drive) (payload : List Byte) (s : State) : LinkKept s (deliverAck d payload s) := by
  have hletGo (t : Option Token) (y : DriveSlot) : LinkKept s (setSlot d y (onBuffer letGo t s)) :=
    (onBuffer_traffic letGo_traffic t s).linkKept
  unfold deliverAck
  dsimp only
  split
  · exact .refl s
  · split
    · split
      · exact hletGo ..
      · rw [ackReject_eq]
        split
        · exact (hletGo ..).trans (report_lost_linkKept ..)
        · exact hletGo ..
    · exact .refl s

theorem handOver_linkKept (d : Drive) (b : Token) (q : Byte) (s : State) : LinkKept s (handOver d b q s) := by
  cases hstate : (s.drives.get d).state with
  | idle =>
    rw [handOver_of_idle hstate]
    exact .refl s
  | failed =>
    rw [handOver_of_failed hstate]
    exact .refl s
  | awaiting =>
    have hwithdrawn (y : DriveSlot) : LinkKept s (setSlot d y
        (onBuffer withdraw (s.drives.get d).retained (setSlot d (oneSent (s.drives.get d)) s))) :=
      (onBuffer_traffic withdraw_traffic (s.drives.get d).retained (setSlot d (oneSent (s.drives.get d)) s)).linkKept
    by_cases hlimit : (s.drives.get d).misses + 1 = missLimit s
    · rw [handOver_of_limit hstate hlimit]
      exact (hwithdrawn _).trans (report_lost_linkKept ..)
    · rw [handOver_of_below hstate hlimit]
      exact hwithdrawn (s.drives.get d)

/-! ### Taps and the shaper -/

theorem anchorSignal_linkKept (s : State) : LinkKept s (anchorSignal s) := by
  by_cases hmode : s.lean.mode = .bridge
  · simp only [anchorSignal, hmode]
    exact .refl s
  · by_cases hcycle : s.lean.cycle = none
    · rw [anchorSignal_of_idle hmode hcycle, startCycle_eq .anchor hmode]
      exact .refl s
    · rw [anchorSignal_of_cycle hmode hcycle]
      split
      · exact .refl s
      · exact (report_linkKept (by simp) ..).after (LinkKept.refl s)

theorem lockSignal_linkKept (v : Word) (s : State) : LinkKept s (lockSignal v s) := by
  have hback (u : State) : LinkKept u (handBack u) := by
    unfold handBack
    split <;> exact .refl u
  have hsettled (k l : FaultKind) (hk : k ≠ .linkQuiet) (hl : l ≠ .linkQuiet) (x : Lock) :
      LinkKept s (report l false (report k false { s with lock := x })) :=
    (report_linkKept hk false { s with lock := x }).trans (report_linkKept hl ..)
  unfold lockSignal
  dsimp only
  split
  · exact report_linkKept (by simp) ..
  · exact report_linkKept (by simp) ..
  · split
    · exact .refl s
    · exact hsettled _ _ (by simp) (by simp) _
  · split
    · exact (hsettled _ _ (by simp) (by simp) _).trans (hback _)
    · exact .refl s
  · exact .refl s

theorem staleKind_ne_linkQuiet {role : Role} {k : FaultKind} (h : staleKind role = some k) : k ≠ .linkQuiet := by
  cases role <;> cases h <;> simp

theorem tap_linkKept (frame : List Byte) (c : Channel) (g : Signals) (s : State) : LinkKept s (tap frame c g s).2 := by
  unfold tap reportStaleOf
  dsimp only
  split
  · exact .refl s
  · split
    · exact .refl s
    · split
      · exact .refl s
      · split
        · exact .refl s
        next k hk => exact (report_linkKept (staleKind_ne_linkQuiet hk) ..).after (LinkKept.refl s)

theorem tapFrame_linkKept (frame : List Byte) (taps : List Channel) (s : State) : LinkKept s (tapFrame frame taps s) := by
  have hall (taps : List Channel) (g : Signals) (u : State) : LinkKept u (tapAll frame taps g u).2 := by
    induction taps generalizing g u with
    | nil => exact .refl u
    | cons c rest ih => exact (tap_linkKept frame c g u).trans (ih _ _)
  have htapped := hall taps noSignals s
  unfold tapFrame giveSignals
  generalize tapAll frame taps noSignals s = tapped at htapped
  have hanchored : LinkKept s (if tapped.1.anchor then anchorSignal tapped.2 else tapped.2) := by
    split
    · exact htapped.trans (anchorSignal_linkKept _)
    · exact htapped
  dsimp only
  split
  · exact hanchored
  · exact hanchored.trans (lockSignal_linkKept ..)

theorem shapeFrame_linkKept (b : Token) (frame : List Byte) (offset : Fin 16) (s : State) :
    LinkKept s (shapeFrame b frame offset s) := by
  have hshaped (x : Shaper) (active : Bool) (bs : List Byte) :
      LinkKept s (setBytes b bs (report .demandClamped active { s with shaper := x })) :=
    (report_linkKept (by simp) active { s with shaper := x }).trans (setBytes_traffic b bs _).linkKept
  unfold shapeFrame trackSteerFrame
  dsimp only
  split
  · exact (hshaped ..).trans (handOver_linkKept ..)
  · exact hshaped ..

theorem shape_linkKept (p : Port) (b : Token) (taps : List Channel) (urgent : Bool) (s : State) :
    LinkKept s (shape p b taps urgent s) := by
  have htapped := tapFrame_linkKept (buffer b s).bytes taps s
  have hbypass (u : State) : LinkKept u (bypassFrame u) := (report_linkKept (by simp) ..).after (LinkKept.refl u)
  unfold shape
  dsimp only
  refine LinkKept.trans (htapped.trans ?_) (forward_traffic p urgent b _).linkKept
  split
  · exact hbypass _
  · exact shapeFrame_linkKept ..

/-- No classification reports LINK_QUIET. -/
theorem classify_linkKept (p : Port) (b : Token) (s : State) : LinkKept s (classify p b s) := by
  have hperform (e : StreamEntry) (u : State) : LinkKept u (perform e p b u) := by
    unfold perform
    dsimp only
    split
    · exact (forward_traffic ..).linkKept
    · exact (tapFrame_linkKept ..).trans (forward_traffic ..).linkKept
    · exact (tapFrame_linkKept ..).trans (releaseBuffer_traffic ..).linkKept
    · exact shape_linkKept ..
    · exact (deliverAck_linkKept ..).trans (releaseBuffer_traffic ..).linkKept
    · exact (releaseBuffer_traffic ..).linkKept
  have hdefault : LinkKept s (defaultDisposition p b s) := by
    unfold defaultDisposition
    dsimp only
    split
    · exact (releaseBuffer_traffic ..).linkKept.after (LinkKept.refl s)
    · exact (forward_traffic ..).linkKept.after (LinkKept.refl s)
  unfold classify
  dsimp only
  split
  · exact takeRequest_linkKept ..
  · split
    · exact (forward_traffic ..).linkKept
    · split
      · exact (hperform ..).after (LinkKept.refl s)
      · exact hdefault

/-! ## A port heard -/

/-- What a port's report that it is heard leaves of the qualifier and the record of LINK_QUIET (R163). -/
theorem reportPortHeard_leaves (p : Port) (s : State) :
    (reportPortHeard p s).monitor.quietPorts =
        (if severity .linkQuiet s = 0 then s.monitor.quietPorts else s.monitor.quietPorts.set p false)
      ∧ faultRecord .linkQuiet (reportPortHeard p s) =
          (if s.monitor.quietPorts.get p = true ∧ s.monitor.quietPorts.get p.opposite = false then
            takenRecord (severity .linkQuiet s) false (faultRecord .linkQuiet s)
          else faultRecord .linkQuiet s)
      ∧ ExchangeOnly s (reportPortHeard p s) := by
  by_cases hsev : severity .linkQuiet s = 0
  · have hsame : reportPortHeard p s = s := if_pos (.inl hsev)
    rw [hsame, if_pos hsev, hsev, takenRecord, if_pos rfl, ite_self]
    exact ⟨rfl, rfl, .refl s⟩
  · rw [if_neg hsev]
    cases hown : s.monitor.quietPorts.get p with
    | false =>
      have hsame : reportPortHeard p s = s := if_pos (.inr hown)
      have hset : s.monitor.quietPorts.set p false = s.monitor.quietPorts := by rw [← hown, ports_set_get]
      rw [hsame, hset, if_neg (by simp)]
      exact ⟨rfl, rfl, .refl s⟩
    | true =>
      have hremoved : ExchangeOnly s
          { s with monitor := { s.monitor with quietPorts := s.monitor.quietPorts.set p false } } :=
        ⟨rfl, rfl, rfl, rfl, rfl, rfl, rfl, rfl⟩
      have hremoves : reportPortHeard p s =
          if s.monitor.quietPorts.get p.opposite then
            { s with monitor := { s.monitor with quietPorts := s.monitor.quietPorts.set p false } }
          else report .linkQuiet false
            { s with monitor := { s.monitor with quietPorts := s.monitor.quietPorts.set p false } } :=
        if_neg (not_or.2 ⟨hsev, by simp [hown]⟩)
      cases hother : s.monitor.quietPorts.get p.opposite with
      | true =>
        rw [hremoves, hother, if_pos rfl, if_neg (by simp)]
        exact ⟨rfl, rfl, hremoved⟩
      | false =>
        have hreaction := report_reaction .linkQuiet false
          { s with monitor := { s.monitor with quietPorts := s.monitor.quietPorts.set p false } }
        rw [hremoves, hother, if_neg Bool.false_ne_true, if_pos ⟨rfl, rfl⟩]
        exact ⟨hreaction.quietPorts, (report_record .linkQuiet false _ rfl).1, hremoved.trans hreaction.exchange⟩

/-- Settles O10: the receiver and the count, then `reportPortHeard_leaves`, then a classification, which keeps both. -/
theorem goodFrameIsCountedHeardAndClassified : Obligations.GoodFrameIsCountedHeardAndClassified := by
  intro p body b n s hreset hphase hlen hcheck heard
  have hexec : exec (.frameEnd p body) s = .next (classify p b heard) := by
    refine (unlessReset_of_not_inReset _ hreset).trans (congrArg _ ?_)
    rw [frameEnd_of_whole hphase hlen, hcheck, if_pos rfl]
    rfl
  obtain ⟨hports, hrecord, hexchange⟩ :=
    reportPortHeard_leaves p (countGood p b (setBytes b (receivedFrame b n body s) s))
  have hframe := classify_frame p b heard
  refine ⟨_, hexec, rfl, ?_, ?_, ?_, ?_, ?_, ?_, ?_, ?_, ?_, ?_, ?_⟩
  · rw [hframe.rx, hexchange.rx]
    rfl
  · rw [hframe.quietPorts, hports]
    rfl
  · rw [classify_linkKept p b heard]
    exact hrecord
  · exact congrArg Buffer.state (buffer_putBuffer_same ..)
  · exact hframe.envelope.trans hexchange.envelope
  · rw [hframe.streams, hexchange.classifier]
    rfl
  · rw [hframe.channels, hexchange.channels]
    rfl
  · rw [hframe.params, hexchange.agent]
    rfl
  · rw [hframe.stage, hexchange.agent]
    rfl
  · exact hframe.resets.trans hexchange.resets
  · exact hframe.node.trans hexchange.node

end Sys2Proof.Machine
end

section
/-!
PROOF. The end of the last reset held: the supply judged and the start-up status frame in transmission (R173, R176,
R177).
-/
namespace Sys2Proof.Machine

/-! ## A status frame launched at an idle transmitter -/

theorem enqueue_of_empty {p : Port} {b : Token} {s : State} (hidle : (s.tx.get p).sending = none)
    (hprio : (s.tx.get p).priority = []) (htransit : (s.tx.get p).transit = []) :
    enqueue p .priority b s =
      beginTransmission p b
        (setTx p { s.tx.get p with runCount := bumpByte (s.tx.get p).runCount } (joined p .priority b s)) := by
  have hget : (joined p .priority b s).tx.get p = { s.tx.get p with priority := [b] } := by
    rw [joined_tx, ports_get_set_same, withTail, hprio]
    rfl
  rw [enqueue_of_idle hidle]
  unfold pick
  generalize joined p .priority b s = u at hget
  have hqueue : (u.tx.get p).transit = [] := by rw [hget, htransit]
  have hhead : (u.tx.get p).priority = [b] := by rw [hget]
  rw [hqueue, ageHeads, choose_of_priority hhead (.inl hqueue), hget]
  congr 2
  rw [← hprio]

section launch
variable {s : State}

theorem holdForOrigin_buffers (b : Token) (s : State) :
    ∃ y, holdForOrigin b s = { s with pool := { s.pool with buffers := y } } := ⟨_, rfl⟩

theorem headed_buffers (b : Token) (s : State) : ∃ y, headed b s =
    { s with
      pool := { s.pool with buffers := y }
      monitor :=
        { s.monitor with statusSeq := s.monitor.statusSeq + 1, statusWanted := false, statusInHand := some b } } :=
  ⟨_, rfl⟩

theorem joined_buffers (p : Port) (b : Token) (s : State) : ∃ y, joined p .priority b s =
    { s with
      pool := { s.pool with buffers := y }
      tx := s.tx.set p { s.tx.get p with priority := (s.tx.get p).priority ++ [b] } } := ⟨_, rfl⟩

theorem beginStatus_buffers {b : Token} (h : s.monitor.statusInHand = some b) : ∃ y, beginTransmission .cockpit b s =
    { s with
      pool := { s.pool with buffers := y }
      tx := s.tx.set .cockpit { s.tx.get .cockpit with sending := some b }
      monitor := { s.monitor with statusWanted := false } } := by
  rw [beginTransmission_of_status ⟨rfl, h⟩]
  exact ⟨_, rfl⟩

/-- The start-up status frame in transmission: buffer 0 filled, the cockpit port sending it (R44, R171, R172). -/
structure StartUpSent (s t : State) : Prop where
  rest : ∃ y, t =
    { s with
      pool := { s.pool with buffers := y }
      tx := s.tx.set .cockpit { Transmitter.atReset with runCount := 1, sending := some 0 }
      monitor :=
        { s.monitor with
          statusSeq := s.monitor.statusSeq + 1, statusWanted := false, statusInHand := some 0 } }
  frame : buffer 0 t =
    { heldBuffer s with
      state := .sending, egress := some .cockpit
      bytes := withCheck (headerBytes 7 (statusStream s.node) s.monitor.statusSeq 18 ++ stateRecord t) }
  others : ∀ b, b ≠ 0 → buffer b t = buffer b s

/-- With POOL_EXHAUSTED inactive, buffer 0 FREE and an empty cockpit transmitter a status frame is sent at once. -/
theorem originateStatus_of_silent (hfree : lowestFree s = some 0)
    (hpool : (faultRecord .poolExhausted s).active = false) (htx : s.tx.cockpit = Transmitter.atReset) :
    StartUpSent s (originateStatus s) := by
  have htx' : (headed 0 (holdForOrigin 0 s)).tx.get .cockpit = Transmitter.atReset := htx
  have hnochange : takeInactive setWanted .poolExhausted (holdForOrigin 0 s) = holdForOrigin 0 s :=
    takeInactive_of_no_change (.inr hpool)
  have hlaunch : originateStatus s =
      beginTransmission .cockpit 0
        (setTx .cockpit { Transmitter.atReset with runCount := 1 }
          (joined .cockpit .priority 0 (headed 0 (holdForOrigin 0 s)))) := by
    rw [originateStatus_of_free hfree, hnochange, launchStatus_eq,
      enqueue_of_empty (by rw [htx']; rfl) (by rw [htx']; rfl) (by rw [htx']; rfl), htx']
    rfl
  have htraffic : TrafficOnly (headed 0 (holdForOrigin 0 s)) (originateStatus s) := by
    rw [hlaunch]
    exact ((joined_traffic ..).trans (setTx_traffic ..)).trans (beginTransmission_traffic ..)
  have hheaded : buffer 0 (headed 0 (holdForOrigin 0 s)) =
      { heldBuffer s with bytes := headerBytes 7 (statusStream s.node) s.monitor.statusSeq 18 } := by
    rw [buffer_headed, if_pos rfl, buffer_holdForOrigin, if_pos rfl]
    rfl
  have hrecord : stateRecord (originateStatus s) = stateRecord (headed 0 (holdForOrigin 0 s)) := htraffic.stateRecord
  refine ⟨?_, ?_, fun b hb => ?_⟩
  · obtain ⟨y, hy⟩ := holdForOrigin_buffers 0 s
    obtain ⟨y', hy'⟩ := headed_buffers 0 (holdForOrigin 0 s)
    obtain ⟨y'', hy''⟩ := joined_buffers .cockpit 0 (headed 0 (holdForOrigin 0 s))
    have hsent := beginStatus_buffers (b := 0)
      (s := setTx .cockpit { Transmitter.atReset with runCount := 1 }
        (joined .cockpit .priority 0 (headed 0 (holdForOrigin 0 s)))) rfl
    rw [← hlaunch, hy'', hy', hy] at hsent
    exact hsent
  · rw [hrecord, hlaunch, buffer_beginTransmission_of_status ⟨rfl, rfl⟩, buffer_setTx, buffer_joined, if_pos rfl, hheaded,
      ((joined_traffic .cockpit .priority 0 (headed 0 (holdForOrigin 0 s))).trans (setTx_traffic ..)).stateRecord]
    rfl
  · rw [hlaunch, buffer_beginTransmission_of_ne hb, buffer_setTx, buffer_joined, if_neg hb.symm, buffer_headed,
      if_neg hb.symm, buffer_holdForOrigin, if_neg hb.symm]

end launch

/-! ## The supply judged -/

section supply
variable {r : ResetControl} {n : BitVec 6} {s : State}

/-- The record of a kind once the supply has been judged at the end of a reset (R176). -/
def supplyRecord (low : Bool) (k : FaultKind) : FaultRecord :=
  if low = true ∧ k = .supplyLow then { active := true, latched := true, occurrences := 1 } else FaultRecord.atReset

/-- A rise of SUPPLY_LOW at severity 2 in BRIDGE, with status-wanted set, is a matter of its record and of ALERT. -/
theorem report_supplyLow (hsev : severity .supplyLow s = 2) (hmask : inStatusMask .supplyLow s = true)
    (hmode : s.lean.mode = .bridge) (hwanted : s.monitor.statusWanted = true)
    (hactive : (faultRecord .supplyLow s).active = false) :
    report .supplyLow true s = judgeAlert (putFault .supplyLow (risen (faultRecord .supplyLow s)) s) := by
  have hreact : react wantStatus .supplyLow (putFault .supplyLow (risen (faultRecord .supplyLow s)) s)
      = putFault .supplyLow (risen (faultRecord .supplyLow s)) s := by
    have hsev' : severity .supplyLow (putFault .supplyLow (risen (faultRecord .supplyLow s)) s) = 2 := hsev
    have hleave : leaveActive wantStatus (putFault .supplyLow (risen (faultRecord .supplyLow s)) s)
        = putFault .supplyLow (risen (faultRecord .supplyLow s)) s :=
      leaveActive_of_not_active (fun h => by
        have hbridge : (putFault .supplyLow (risen (faultRecord .supplyLow s)) s).lean.mode = .bridge := hmode
        rw [hbridge] at h
        cases h)
    unfold react
    rw [hsev', if_pos (Nat.le_refl 2), if_neg (by omega), hleave]
  rw [report_true_of_change (by simp [hsev]) hactive, hmask, if_pos rfl, hreact,
    wantStatus_of_wanted (s := putFault .supplyLow (risen (faultRecord .supplyLow s)) s) hwanted]

/-- SUPPLY_LOW rises with status-wanted set and the lean law in BRIDGE: record, ALERT and flag, and nothing else. -/
theorem judgeSupply_resetBlocks (low : Bool) (r : ResetControl) (n : BitVec 6) (s : State) :
    ∃ f, judgeSupply low (resetBlocks r n s) =
        { resetBlocks r n s with
          monitor := { (resetBlocks r n s).monitor with faults := f, alert := low, supplyLow := low } }
      ∧ ∀ k, look f (faultIndex k) = supplyRecord low k := by
  cases low with
  | false => exact ⟨(resetBlocks r n s).monitor.faults, rfl, fun k => faultRecord_resetBlocks k r n s⟩
  | true =>
    obtain ⟨u, hu⟩ : ∃ u, u = { resetBlocks r n s with
        monitor := { (resetBlocks r n s).monitor with supplyLow := true } } := ⟨_, rfl⟩
    have hsev : severity .supplyLow u = 2 := by rw [hu]; rfl
    have hmask : inStatusMask .supplyLow u = true := by
      have hbit : (look paramReset 42).getLsbD 12 = true := by decide
      rw [hu]
      exact hbit
    have hmode : u.lean.mode = .bridge := by rw [hu]; rfl
    have hwanted : u.monitor.statusWanted = true := by rw [hu]; rfl
    have hbell : (alertMask u).getLsbD 12 = true := by
      have hbit : (look paramReset 41).getLsbD 12 = true := by decide
      rw [hu]
      exact hbit
    have hrecords (k : FaultKind) : faultRecord k u = FaultRecord.atReset := by
      rw [hu]
      exact faultRecord_resetBlocks k r n s
    have hjudge : judgeSupply true (resetBlocks r n s) = report .supplyLow true u := by rw [hu]; rfl
    have halert : alertWanted (putFault .supplyLow (risen (faultRecord .supplyLow u)) u) = true := by
      refine List.any_eq_true.2 ⟨faultIndex .supplyLow, List.mem_finRange _, Bool.and_eq_true_iff.2 ⟨?_, hbell⟩⟩
      have hrisen := faultRecord_putFault .supplyLow .supplyLow (risen (faultRecord .supplyLow u)) u
      rw [if_pos rfl] at hrisen
      exact congrArg FaultRecord.latched hrisen
    rw [hjudge, report_supplyLow hsev hmask hmode hwanted (by rw [hrecords]; rfl), judgeAlert, halert]
    refine ⟨(putFault .supplyLow (risen (faultRecord .supplyLow u)) u).monitor.faults, by rw [hu]; rfl, fun k => ?_⟩
    have hrecord : faultRecord k (putFault .supplyLow (risen (faultRecord .supplyLow u)) u) = supplyRecord true k := by
      rw [faultRecord_putFault, hrecords, hrecords]
      by_cases hk : k = .supplyLow
      · subst hk
        rfl
      · rw [if_neg (Ne.symm hk), supplyRecord, if_neg fun h => hk h.2]
    exact hrecord

end supply

/-! ## The end of the last reset -/

/-- What the supply judgement and the start-up frame leave of the reset values. -/
theorem BlocksAtReset.of_blocks {s t : State} (h : BlocksAtReset s) (hrx : t.rx = s.rx)
    (hclassifier : t.classifier = s.classifier) (hchannels : t.channels = s.channels)
    (henvelope : t.envelope = s.envelope) (hlean : t.lean = s.lean) (hshaper : t.shaper = s.shaper)
    (hdrives : t.drives = s.drives) (hlock : t.lock = s.lock) (hagent : t.agent = s.agent)
    (hports : t.monitor.quietPorts = s.monitor.quietPorts) (hnotice : t.pool.releaseNotice = s.pool.releaseNotice) :
    BlocksAtReset t where
  receivers := hrx ▸ h.receivers
  stream := hclassifier ▸ h.stream
  openMode := hclassifier ▸ h.openMode
  streamCounters := hclassifier ▸ h.streamCounters
  channel := hchannels ▸ h.channel
  rows := henvelope ▸ h.rows
  invalid := henvelope ▸ h.invalid
  lean := hlean ▸ h.lean
  shaper := hshaper ▸ h.shaper
  slots := hdrives ▸ h.slots
  lock := hlock ▸ h.lock
  agent := hagent ▸ h.agent
  quietPorts := hports ▸ h.quietPorts
  releaseNotice := hnotice ▸ h.releaseNotice

theorem inReset_of_released {k : ResetKind} {s : State} (h : ∀ j, j ≠ k → resetHeld j s.resets = false) :
    inReset { s with resets := setHeld k false s.resets } = false := by
  have hpower := h .power
  have hpin := h .pin
  have hmanagement := h .management
  cases k <;> simp_all [resetHeld, inReset, setHeld]

theorem setHeld_lastBegun (k : ResetKind) (x : ResetControl) : (setHeld k false x).lastBegun = x.lastBegun := by
  cases k <;> rfl

theorem endReset_of_last {k : ResetKind} {straps : BitVec 6} {low : Bool} {s : State}
    (hk : resetHeld k s.resets = true) (hout : inReset { s with resets := setHeld k false s.resets } = false) :
    endReset k straps low s =
      leaveReset (setHeld k false s.resets) straps low { s with resets := setHeld k false s.resets } := by
  simp only [endReset, hk, if_true, hout, Bool.false_eq_true, if_false]

/-- The reset values with the supply judged (R176). -/
def supplyJudged (low : Bool) (f : Vector FaultRecord 16) (r : ResetControl) (straps : BitVec 6) (s : State) : State :=
  { resetBlocks r straps s with
    monitor := { (resetBlocks r straps s).monitor with faults := f, alert := low, supplyLow := low } }

/-- The part leaves reset with the supply judged and the start-up status frame sent (R173, R176). -/
theorem leaveReset_sent (x : ResetControl) (straps : BitVec 6) (low : Bool) (s : State) :
    ∃ f, (∀ k, look f (faultIndex k) = supplyRecord low k)
      ∧ StartUpSent (supplyJudged low f { x with cause := x.lastBegun } straps s) (leaveReset x straps low s) := by
  obtain ⟨f, hjudged, hrecords⟩ := judgeSupply_resetBlocks low { x with cause := x.lastBegun } straps s
  have hempty (b : Token) : buffer b (supplyJudged low f { x with cause := x.lastBegun } straps s) = Buffer.empty :=
    buffer_resetBlocks b { x with cause := x.lastBegun } straps s
  have hpool : (faultRecord .poolExhausted (supplyJudged low f { x with cause := x.lastBegun } straps s)).active
      = false := by
    have hrecord := hrecords .poolExhausted
    rw [supplyRecord, if_neg (by simp)] at hrecord
    exact congrArg FaultRecord.active hrecord
  have hleave : leaveReset x straps low s =
      originateStatus (supplyJudged low f { x with cause := x.lastBegun } straps s) := congrArg originateStatus hjudged
  refine ⟨f, hrecords, ?_⟩
  rw [hleave]
  exact originateStatus_of_silent
    (lowestFree_eq_some (by rw [hempty]; rfl) fun c hc => absurd hc (Nat.not_lt_zero _)) hpool rfl

/-- Settles O6: the reset values, then the supply judged, then the status frame sent at once. -/
theorem lastResetEndLeavesResetValues : Obligations.LastResetEndLeavesResetValues := by
  intro k straps low s hheld hothers
  have hout := inReset_of_released hothers
  have hexec := (exec_endCommand k straps low s).trans
    (congrArg _ (endReset_of_last (straps := straps) (low := low) hheld hout))
  have hbegun := setHeld_lastBegun k s.resets
  generalize setHeld k false s.resets = x at hexec hout hbegun
  obtain ⟨f, hrecords, ⟨y, hrest⟩, hframe, hothers⟩ := leaveReset_sent x straps low { s with resets := x }
  have hblocks := resetBlocks_atReset { x with cause := x.lastBegun } straps { s with resets := x }
  refine ⟨_, hexec, ?_⟩
  generalize leaveReset x straps low { s with resets := x } = t at hrest hframe hothers
  have hcause : t.resets = { x with cause := x.lastBegun } := by rw [hrest]; rfl
  have hfaults : t.monitor.faults = f := by rw [hrest]; rfl
  refine ⟨by apply hblocks.of_blocks <;> rw [hrest] <;> rfl, ?_, by rw [hcause]; exact hbegun, by rw [hrest]; rfl,
    by rw [hrest]; rfl, by rw [hrest]; rfl, fun k => ?_, by rw [hrest]; rfl, by rw [hrest]; rfl, by rw [hrest],
    by rw [hrest], by rw [hrest]; rfl, by rw [hframe]; rfl, by rw [hframe], by rw [hframe]; rfl, by rw [hframe]; rfl,
    by rw [hframe], by rw [hframe]; rfl, fun b hb => ?_, by rw [hrest]; rfl, by rw [hrest]; rfl, by rw [hrest]; rfl,
    by rw [hrest]; rfl, by rw [hrest]; rfl⟩
  · rw [inReset_of_resets (s := { s with resets := { x with cause := x.lastBegun } }) hcause]
    exact hout
  · exact (congrArg (look · (faultIndex k)) hfaults).trans (hrecords k)
  · rw [hothers b hb]
    exact buffer_resetBlocks b { x with cause := x.lastBegun } straps { s with resets := x }

end Sys2Proof.Machine
end
